-- ==== Sys2Proof/Word.lean ====
section
/-! DEFINITION. The plain words of the FG416 (bytes, timestamps, counters) and the names of its ports and segments
with per-port and per-segment data. Spec: 00_scope.md 0.4 and 0.5. -/

namespace Sys2Proof

/-- One byte of a frame, of the pool or of a bank. -/
abbrev Byte := BitVec 8

/-- A value of the 32-bit time base (R22). -/
abbrev Stamp := BitVec 32

/-- A 32-bit counter (R149), hit count (R49), erase count or generation (R171). -/
abbrev Count := BitVec 32

/-- The four half-duplex segments, ports 1 to 4 (0.4). -/
inductive Seg where
  | seg1 | seg2 | seg3 | seg4
deriving DecidableEq, Repr

/-- The five ports: port 0 is the trunk (0.4). -/
inductive Port where
  | trunk
  | seg (s : Seg)
deriving DecidableEq, Repr

/-- One value for each segment. -/
structure PerSeg (α : Type) where
  seg1 : α
  seg2 : α
  seg3 : α
  seg4 : α
deriving DecidableEq, Repr

/-- One value for each port. -/
structure PerPort (α : Type) where
  trunk : α
  segs : PerSeg α
deriving DecidableEq, Repr

/-- A subset of the five ports (0.5): the ports mapped to true. -/
abbrev PortSet := PerPort Bool

/-- The value held for segment `s`. -/
def PerSeg.get {α : Type} (m : PerSeg α) : Seg → α
  | .seg1 => m.seg1
  | .seg2 => m.seg2
  | .seg3 => m.seg3
  | .seg4 => m.seg4

/-- `m` with the value for segment `s` replaced. -/
def PerSeg.set {α : Type} (m : PerSeg α) (s : Seg) (x : α) : PerSeg α :=
  match s with
  | .seg1 => { m with seg1 := x }
  | .seg2 => { m with seg2 := x }
  | .seg3 => { m with seg3 := x }
  | .seg4 => { m with seg4 := x }

/-- The same value for every segment. -/
def PerSeg.all {α : Type} (x : α) : PerSeg α := ⟨x, x, x, x⟩

/-- `f` applied to each segment's value. -/
def PerSeg.map {α β : Type} (f : α → β) (m : PerSeg α) : PerSeg β :=
  ⟨f m.seg1, f m.seg2, f m.seg3, f m.seg4⟩

/-- The value held for port `p`. -/
def PerPort.get {α : Type} (m : PerPort α) : Port → α
  | .trunk => m.trunk
  | .seg s => m.segs.get s

/-- `m` with the value for port `p` replaced. -/
def PerPort.set {α : Type} (m : PerPort α) (p : Port) (x : α) : PerPort α :=
  match p with
  | .trunk => { m with trunk := x }
  | .seg s => { m with segs := m.segs.set s x }

/-- The same value for every port. -/
def PerPort.all {α : Type} (x : α) : PerPort α := ⟨x, PerSeg.all x⟩

/-- `f` applied to each port's value. -/
def PerPort.map {α β : Type} (f : α → β) (m : PerPort α) : PerPort β :=
  ⟨f m.trunk, m.segs.map f⟩

/-- The segments in ascending order. -/
def Seg.list : List Seg := [.seg1, .seg2, .seg3, .seg4]

/-- The ports in ascending order. -/
def Port.list : List Port := [.trunk, .seg .seg1, .seg .seg2, .seg .seg3, .seg .seg4]

/-- A segment's port number, 1 to 4 (0.5). -/
def Seg.num : Seg → Nat
  | .seg1 => 1
  | .seg2 => 2
  | .seg3 => 3
  | .seg4 => 4

/-- A port's number, 0 to 4 (0.5). -/
def Port.num : Port → Nat
  | .trunk => 0
  | .seg s => s.num

/-- A saturating increment of a 32-bit counter: at 4,294,967,295 it stays (R149). -/
def Count.bump (c : Count) : Count := if c = 0xFFFFFFFF#32 then c else c + 1#32

end Sys2Proof
end

