-- ==== Sys2Proof/Config.lean ====
section
/-! DEFINITION. What the part fixes: its codes (R190), its sizes, the model's unit of time, and the free values the spec
leaves open (an order of two events that fall together). -/

namespace Sys2Proof.Config

/-- Vendor code 0x54A3 (R190). -/
def vendorCode : BitVec 16 := 0x54A3#16

/-- Part code 0x0416 (R190). -/
def partCode : BitVec 16 := 0x0416#16

/-- Silicon revision 0x01 (R190). -/
def revision : Byte := 0x01#8

/-- NOTICE code 0x70 (R190). -/
def noticeCode : Byte := 0x70#8

/-- ALERT code 0x71 (R190). -/
def alertCode : Byte := 0x71#8

/-- Pool buffers (2.6). -/
def poolBuffers : Nat := 64

/-- Bytes one buffer holds (R27). -/
def bufferBytes : Nat := 256

/-- Descriptors one transmit queue holds, both parts together (R72). -/
def queueLimit : Nat := 20

/-- Entries of the agent's input queue (R120). -/
def inputLimit : Nat := 4

/-- Entries of the rule table (R43). -/
def ruleEntries : Nat := 128

/-- The aging counter's limit (R79). -/
def agingLimit : Nat := 4

/-- Repeats of one alert before it stalls (R164). -/
def repeatLimit : Nat := 3

/-- What an unlisted byte of memory reads as: the cleared bank memory's 0xFF (R171). For the pool's RAM at power-on the
spec gives no value and none is ever read before it is written (R37, R41): DESIGN CHOICE, safe (log 14). -/
def blankByte : Byte := 0xFF#8

/-- The constant that the integrity check's sum starts from (R191). -/
def integrityBase : Nat := 0x46470000

/-- The model's fine units of time in one microsecond (log 2): 288 makes half a bit at every rate code a whole number, so
that every interval of R194 is exact. -/
def finePerMicro : Nat := 288

/-- Fine units in one millisecond. -/
def finePerMilli : Nat := 1000 * finePerMicro

/-- FREE VALUE (log 5): which of several events that are due at one instant the part takes first. The spec gives no order
(R39, R55, R80, R97, R110, R123, R158, R167: either may be taken first). Read with the counter `State.freeCount`. -/
opaque pick : Nat → Nat

end Sys2Proof.Config
end

