-- ==== Sys2Proof/Syntax.lean ====
section
/-! DEFINITION. The commands the block takes: one constructor for each row of spec/opcode_table.json, in the table's order. -/

namespace Sys2Proof

/-- The 47 commands and events of the part (spec/opcode_table.json, spec/95_what_each_step_holds.md). A management command
carries no operand here: it is the agent's TAKING of the frame at the head of its input queue (R121), and its operands are the
bytes of that frame (log 6). -/
inductive Instr where
  /-- CHARACTER_ARRIVAL: a start bit is confirmed on port `p` (R8, R24). -/
  | characterArrival (p : Port)
  /-- CHARACTER_RECEIVED: a character with these data bits, sampled parity bit and sampled first stop bit is received at the
  centre of that stop bit (R8, R26). The parity bit means nothing where the port's parity is N. -/
  | characterReceived (p : Port) (data : Byte) (parityBit stopBit : Bool)
  /-- HELD_CHARACTER_RELEASED: the line returns high before the break time (R9). -/
  | heldCharacterReleased (p : Port)
  /-- BREAK_DECLARED: the line is still low one character time after the stop bit of a zero character (R9). -/
  | breakDeclared (p : Port)
  /-- GAP_TIMER_EXPIRY (R11). -/
  | gapTimerExpiry (p : Port)
  /-- TURNAROUND_GUARD_EXPIRY: only segments have a guard (R12, R14). `edgeInside` says that a character is arriving whose
  leading edge fell inside the guard (R16, log 35); left out, it says that none is. -/
  | turnaroundGuardExpiry (sg : Seg) (edgeInside : Bool := false)
  /-- SEND_END: the end of the last stop bit of the frame being sent (R13, R82). -/
  | sendEnd (p : Port)
  /-- RESPONSE_TIMER_EXPIRY (R96). -/
  | responseTimerExpiry (sg : Seg)
  /-- LAPSE_TIMER_EXPIRY (R105). -/
  | lapseTimerExpiry (sg : Seg)
  /-- SETTLE_TIMER_EXPIRY (R93). -/
  | settleTimerExpiry (sg : Seg)
  /-- REPEAT_TIMER_EXPIRY (R164). -/
  | repeatTimerExpiry
  /-- COMMIT_COMPLETION (R177, R178): `wrong` lists the cells of the target bank (offset within the bank, 4 to 3167) that read
  back with another byte than the one programmed; the empty list is a memory that keeps what is written (log 10). -/
  | commitCompletion (wrong : List (Nat × Byte))
  /-- LOAD_COMPLETION (R182). -/
  | loadCompletion
  /-- STARTUP_LOAD_COMPLETION (R185). -/
  | startupLoadCompletion
  /-- POWER_RESET: VDD rises through 1.2 V (R193). -/
  | powerReset
  /-- SUPPLY_RESET: VDD falls below 2.7 V (R193). -/
  | supplyReset
  /-- SUPPLY_RELEASE: VDD has been above 2.9 V for 2 ms (R193). -/
  | supplyRelease
  /-- PIN_RESET: RSTN has been low for 10 microseconds (R192). -/
  | pinReset
  /-- PIN_RESET_END: RSTN rises (R192). -/
  | pinResetEnd
  /-- IDENTIFY (R128). -/
  | identify
  /-- UNKNOWN_COMMAND (R122). -/
  | unknownCommand
  /-- READ_STATUS (R129). -/
  | readStatus
  /-- READ_PORT (R130). -/
  | readPort
  /-- SET_PORT (R131). -/
  | setPort
  /-- ENABLE_PORT (R132). -/
  | enablePort
  /-- DISABLE_PORT (R133). -/
  | disablePort
  /-- READ_RULE (R134). -/
  | readRule
  /-- WRITE_RULE (R135). -/
  | writeRule
  /-- DELETE_RULE (R136). -/
  | deleteRule
  /-- READ_HITS (R137). -/
  | readHits
  /-- READ_COUNTERS (R138). -/
  | readCounters
  /-- CLEAR_COUNTERS_PORT (R139). -/
  | clearCountersPort
  /-- CLEAR_COUNTERS_ALL (R139). -/
  | clearCountersAll
  /-- CLEAR_COUNTERS_HITS (R139). -/
  | clearCountersHits
  /-- READ_EXCHANGE (R140). -/
  | readExchange
  /-- TAKE_SNAPSHOT (R141). -/
  | takeSnapshot
  /-- ACK_ALERT (R142). -/
  | ackAlert
  /-- SET_AGENT (R143). -/
  | setAgent
  /-- COMMIT (R144). -/
  | commit
  /-- LOAD (R145). -/
  | load
  /-- READ_STORE (R146). -/
  | readStore
  /-- RESTART_COLD (R147). -/
  | restartCold
  /-- RESTART_WARM (R147). -/
  | restartWarm
  /-- LINE_RETURNS_HIGH_AFTER_BREAK (R11). -/
  | lineReturnsHighAfterBreak (p : Port)
  /-- VDD_FALLS_BELOW_1V2 (R193). -/
  | vddFallsBelow1V2
  /-- CLKIN_STOPS (R194). -/
  | clkinStops
  /-- CLKIN_RETURNS (R194). -/
  | clkinReturns
deriving DecidableEq, Repr

end Sys2Proof
end

