-- ==== Sys2Proof/WellFormed.lean ====
section
/-! DEFINITION. Which commands are well formed. Ports and segments are named by types that hold no other value, so the one
check left is that the memory cells of COMMIT_COMPLETION lie in a bank's body (09, 9.6). -/

namespace Sys2Proof

/-- A cell of a bank's body, the part an erase clears and a commit programs: bank offsets 4 to 3167 (9.6). -/
def bankBodyCell (a : Nat) : Bool := decide (4 ≤ a ∧ a ≤ 3167)

/-- The command names only things the part has. -/
def Instr.wellFormed (i : Instr) : Bool :=
  match i with
  | .commitCompletion wrong => wrong.all fun c => bankBodyCell c.1
  | .characterArrival _ | .characterReceived _ _ _ _ | .heldCharacterReleased _ | .breakDeclared _ | .gapTimerExpiry _
  | .turnaroundGuardExpiry _ _ | .sendEnd _ | .responseTimerExpiry _ | .lapseTimerExpiry _ | .settleTimerExpiry _
  | .repeatTimerExpiry | .loadCompletion | .startupLoadCompletion | .powerReset | .supplyReset | .supplyRelease
  | .pinReset | .pinResetEnd | .identify | .unknownCommand | .readStatus | .readPort | .setPort | .enablePort
  | .disablePort | .readRule | .writeRule | .deleteRule | .readHits | .readCounters | .clearCountersPort
  | .clearCountersAll | .clearCountersHits | .readExchange | .takeSnapshot | .ackAlert | .setAgent | .commit | .load
  | .readStore | .restartCold | .restartWarm | .lineReturnsHighAfterBreak _ | .vddFallsBelow1V2 | .clkinStops
  | .clkinReturns => true

end Sys2Proof
end

