-- ==== Sys2Proof/Decode.lean ====
section
/-! DEFINITION. The table's words: spec/opcode_table.json gives no row any bits (every row's "fields" is empty and none has
"fixed"), so no word spells a command. -/

namespace Sys2Proof

/-- The command that a word of `nbits` bits spells by the table's bits: none, since no row of the table has bits. -/
def decodeTableWord (_nbits _w : Nat) : Option Instr := none

end Sys2Proof
end

