-- ==== Sys2Proof/Machine/Types.lean ====
section
/-! DEFINITION. The data of every block of the FG416: settings records, receivers, descriptors and queues, transmitters,
exchange slots, rules, counters, snapshots, the alert unit, the agent and the profile store. Plain data only. -/

namespace Sys2Proof.Machine

/-! ### Settings (chapter 1.2) -/

/-- A port's role (R1). -/
inductive Role where
  | field | uplink
deriving DecidableEq, Repr

/-- Parity N, E or O (1.2). -/
inductive Parity where
  | none | even | odd
deriving DecidableEq, Repr

/-- Check mode NONE or CHECK16 (1.2). -/
inductive CheckMode where
  | none | check16
deriving DecidableEq, Repr

/-- The four settings that a trunk record lacks (R2): the guard in microseconds, the others in milliseconds. -/
structure SegTiming where
  guard : Nat
  response : Nat
  lapse : Nat
  settle : Nat
deriving DecidableEq, Repr

/-- A settings record without Enabled (R2, R4). `timing` is absent on the trunk. -/
structure Settings where
  role : Role
  /-- rate code 0 to 8 (R7) -/
  rate : Nat
  parity : Parity
  /-- two stop bits, else one -/
  twoStops : Bool
  checkMode : CheckMode
  /-- the gap threshold in half character times, 4 to 80 (9.5.1) -/
  gapHalf : Nat
  timing : Option SegTiming
  /-- management permitted -/
  mgmt : Bool
deriving DecidableEq, Repr

/-- A full settings record: Enabled and the settings (R2). -/
structure PortRecord where
  enabled : Bool
  settings : Settings
deriving DecidableEq, Repr

/-! ### Frames and receivers (chapters 1 and 2) -/

/-- A frame's error set (R28). -/
structure ErrorSet where
  parity : Bool
  framing : Bool
  brk : Bool
  overlength : Bool
  check : Bool
deriving DecidableEq, Repr

/-- A frame in assembly: its buffer, the bytes stored so far, its error set and its end timestamp (R23, R24, R26). -/
structure Assembly where
  buffer : Nat
  length : Nat
  errors : ErrorSet
  endStamp : Stamp
deriving DecidableEq, Repr

/-- Why characters are being thrown away (1.4): the frame is over length and keeps its buffer (R27), no buffer could be
reserved (R25), or a break ended the frame (R9). -/
inductive Discard where
  | overlength (f : Assembly)
  | refused
  | broken
deriving DecidableEq, Repr

/-- The receiver states of 1.4, with the frame in assembly where one is held. -/
inductive RxState where
  | off
  | idle
  | assembling (f : Assembly)
  | discarding (d : Discard)
  | muted
deriving DecidableEq, Repr

/-- The all-zero character with a low stop bit that is held for the break test (R8, R9): its sampled parity fault and the
instant (of `State.now`) at which its stop bit was sampled. -/
structure HeldChar where
  parityFault : Bool
  since : Nat
deriving DecidableEq, Repr

/-- A port's receiver (1.4): its state, the break test, a declared break that still holds the line low (R11), and the gap
timer: the fine instant it counts from, or stopped (R11). -/
structure Receiver where
  state : RxState
  held : Option HeldChar
  lineLow : Bool
  gapStart : Option Nat
deriving DecidableEq, Repr

/-! ### Descriptors, queues, transmitters (chapter 4) -/

/-- NORMAL or URGENT (R71). -/
inductive Priority where
  | normal | urgent
deriving DecidableEq, Repr

/-- What an EXCHANGE descriptor carries beside the common fields (R71). -/
structure ExchangeParams where
  origin : Port
  retries : Nat
  notice : Bool
  rule : Nat
deriving DecidableEq, Repr

/-- A descriptor's kind (R71). -/
inductive DescriptorKind where
  | plain
  | exchange (x : ExchangeParams)
  | reply
  | notice
deriving DecidableEq, Repr

/-- A transmit-queue descriptor (R71). -/
structure Descriptor where
  buffer : Nat
  kind : DescriptorKind
  priority : Priority
  enqueuedAt : Stamp
deriving DecidableEq, Repr

/-- A port's transmit queue with its two parts, head first (R72), and the arbiter's aging counter (R79). -/
structure TxQueue where
  urgent : List Descriptor
  normal : List Descriptor
  aging : Nat
deriving DecidableEq, Repr

/-- A transmitter's current frame (R81): a taken descriptor, a retry of the open exchange from the slot's buffer, the reply
lane's reply or the alert lane's alert. -/
inductive Current where
  | descriptor (d : Descriptor)
  | retry (buffer : Nat)
  | reply
  | alert
deriving DecidableEq, Repr

/-- The transmitter states of 1.5; in SENDING the current frame and the instant at which its first start bit began. -/
inductive TxState where
  | off
  | idle
  | waiting
  | sending (cur : Current) (since : Nat)
deriving DecidableEq, Repr

/-- The character that an aborted transmission is finishing (R19, R21): its byte and the fine instant of its start bit. The
driver-enable output stays asserted to its end (R17). -/
structure Drain where
  byte : Byte
  start : Nat
deriving DecidableEq, Repr

/-- A port's transmitter (1.5). -/
structure Transmitter where
  state : TxState
  drain : Option Drain
deriving DecidableEq, Repr

/-- The form of RESTART (R147). -/
inductive RestartForm where
  | cold | warm
deriving DecidableEq, Repr

/-- An agent reply as built (R124): its bytes with the check, the model's serial number that tells it from other replies
(R127, log 23), and its restart mark (R147). -/
structure Reply where
  frame : List Byte
  id : Nat
  restart : Option RestartForm
deriving DecidableEq, Repr

/-! ### Counters and snapshots (chapter 7) -/

/-- The sixteen port counters in catalogue order (R150). -/
inductive PortCounter where
  | rxframes | txframes | parity | framing | brk | overlength | checkfail | nobuf
  | unmatched | misroute | qfull | aborted | orphan | noticelost | agentbad | agentovf
deriving DecidableEq, Repr

/-- A port's counters (R150). -/
structure PortCounters where
  rxframes : Count
  txframes : Count
  parity : Count
  framing : Count
  brk : Count
  overlength : Count
  checkfail : Count
  nobuf : Count
  unmatched : Count
  misroute : Count
  qfull : Count
  aborted : Count
  orphan : Count
  noticelost : Count
  agentbad : Count
  agentovf : Count
deriving DecidableEq, Repr

/-- The eight segment exchange counters in catalogue order (R151). -/
inductive ExchangeCounter where
  | exchanges | replied | timeouts | badreplies | retries | failed | cancelled | late
deriving DecidableEq, Repr

/-- A segment's exchange counters (R151). -/
structure ExchangeCounters where
  exchanges : Count
  replied : Count
  timeouts : Count
  badreplies : Count
  retries : Count
  failed : Count
  cancelled : Count
  late : Count
deriving DecidableEq, Repr

/-- The kind of a snapshot (R154). -/
inductive SnapshotKind where
  | parity | framing | brk | overlength | check | nobuf
deriving DecidableEq, Repr

/-- The record of a HELD snapshot (R154). -/
structure Snapshot where
  kind : SnapshotKind
  stamp : Stamp
  lengthSeen : Nat
  bytes : List Byte
  missed : BitVec 8
deriving DecidableEq, Repr

/-! ### A port -/

/-- Everything the part holds for one port. `guardFrom` is the fine instant of the last character's end while the turnaround
guard counts from it, and absent once the guard has run out (R12, R15, log 18). -/
structure PortState where
  enabled : Bool
  settings : Settings
  pendingSettings : Option Settings
  rx : Receiver
  tx : Transmitter
  queue : TxQueue
  lane : Option Reply
  guardFrom : Option Nat
  counters : PortCounters
  snapshot : Option Snapshot
deriving DecidableEq, Repr

/-! ### Exchanges (chapter 5) -/

/-- The last attempt result of an exchange record (R89). -/
inductive AttemptResult where
  | none | timeout | badReply
deriving DecidableEq, Repr

/-- The exchange record (R89). `remaining` is in milliseconds. -/
structure ExchangeRecord where
  number : BitVec 16
  origin : Port
  station : Byte
  buffer : Option Nat
  rule : Nat
  priority : Priority
  retries : Nat
  notice : Bool
  attempt : Nat
  startedAt : Stamp
  remaining : Option Nat
  lastResult : AttemptResult
  retryPending : Bool
deriving DecidableEq, Repr

/-- A segment's exchange slot (R87, R88): what it holds decides its state, and `due` is the instant (of `State.now`) at
which the state's timer runs out (R91). -/
inductive Slot where
  | outOfUse
  | free
  | sendingExchange (r : ExchangeRecord)
  | sendingNoAnswer
  | awaiting (r : ExchangeRecord) (due : Nat)
  | receiving (r : ExchangeRecord)
  | lapsed (r : ExchangeRecord) (due : Nat)
  | resend (r : ExchangeRecord)
  | settling (due : Nat)
deriving DecidableEq, Repr

/-- Everything the part holds for one segment beside its port (R87, R90, R151). -/
structure SegState where
  slot : Slot
  lastNumber : BitVec 16
  counters : ExchangeCounters
deriving DecidableEq, Repr

/-- A notice's reason (5.9). -/
inductive NoticeReason where
  | timeout | badReply | queueFull | noRoute | cancelled
deriving DecidableEq, Repr

/-- What a notice is built from (R113). -/
structure NoticeRequest where
  origin : Port
  segment : Seg
  station : Byte
  reason : NoticeReason
  attempts : Nat
  number : BitVec 16
  rule : Nat
deriving DecidableEq, Repr

/-! ### Rule table (chapter 3) -/

/-- A byte test (R45). -/
structure ByteTest where
  offset : Nat
  value : Byte
  mask : Byte
deriving DecidableEq, Repr

/-- An entry's action with the parameters that the action carries (R44). -/
inductive Action where
  | drop
  | forward (targets : PortSet) (priority : Priority)
  | exchange (target : Seg) (priority : Priority) (retries : Nat) (notice : Bool)
deriving DecidableEq, Repr

/-- The written contents of a valid entry (R44). -/
structure Rule where
  sources : PortSet
  minLength : Nat
  maxLength : Nat
  tests : List ByteTest
  action : Action
deriving DecidableEq, Repr

/-- A valid entry: its contents and its hit count (R44). -/
structure Entry where
  rule : Rule
  hits : Count
deriving DecidableEq, Repr

/-! ### Alert unit (chapter 7.3) -/

/-- An alert cause (R160). -/
inductive Cause where
  | pool | snapshot | exchange | store | restarted
deriving DecidableEq, Repr

/-- A set of alert causes (9.1). -/
structure CauseSet where
  pool : Bool
  snapshot : Bool
  exchange : Bool
  store : Bool
  restarted : Bool
deriving DecidableEq, Repr

/-- The alert state (R159). -/
inductive AlertState where
  | quiet | outstanding | stalled
deriving DecidableEq, Repr

/-- The current alert with its built frame (R159, R162). -/
structure Alert where
  sequence : BitVec 8
  causes : CauseSet
  stamp : Stamp
  freeCount : Nat
  frame : List Byte
deriving DecidableEq, Repr

/-- The alert unit (R159). `repeatDue` is the instant at which the running repeat timer expires. -/
structure AlertUnit where
  state : AlertState
  sequence : BitVec 8
  pendingCauses : CauseSet
  current : Option Alert
  repeatCount : Nat
  repeatDue : Option Nat
deriving DecidableEq, Repr

/-! ### Agent (chapter 6) -/

/-- The agent settings (chapter 6): agent address, alert mask, alert repeat interval in milliseconds. -/
structure AgentSettings where
  address : Byte
  mask : CauseSet
  interval : Nat
deriving DecidableEq, Repr

/-- An entry of the agent's input queue (R120): the frame's buffer, its source port, and that port's check mode at the
completion event. -/
structure InputEntry where
  buffer : Nat
  source : Port
  checkMode : CheckMode
deriving DecidableEq, Repr

/-- The agent state (R125): IDLE, or REPLY-WAIT with the held reply and its port. -/
inductive AgentMode where
  | idle
  | replyWait (port : Port) (reply : Reply)
deriving DecidableEq, Repr

/-- The deferred reply record (R126): port, command code, tag, the agent address at the taking event (R124, log 9), and the
built reply once the store has given the owed outcome. -/
structure Deferred where
  port : Port
  command : Byte
  tag : Byte
  address : Byte
  built : Option Reply
deriving DecidableEq, Repr

/-- The pending agent address (R127): tied to the reply numbered `tie`; for LOAD with the mask and the interval. -/
structure PendingAddress where
  address : Byte
  tie : Nat
  alongside : Option (CauseSet × Nat)
deriving DecidableEq, Repr

/-- The agent (chapter 6). -/
structure Agent where
  mode : AgentMode
  input : List InputEntry
  deferred : Option Deferred
  pendingAddress : Option PendingAddress
  settings : AgentSettings
  nextReply : Nat
deriving DecidableEq, Repr

/-- A command taken from the input queue (R121): where it came from, its code, tag and body, and the agent address in force
at the taking event. -/
structure Request where
  source : Port
  code : Byte
  tag : Byte
  body : List Byte
  address : Byte
deriving DecidableEq, Repr

/-- A reply's outcome (6.2). -/
inductive CommandOutcome where
  | done | busy | badCmd | badArg | noEntry | storeFail
deriving DecidableEq, Repr

/-! ### Profile store (chapter 8) -/

/-- Memory in canonical form: addresses strictly rising, no entry equal to `Config.blankByte`. -/
abbrev Memory := List Host.Cell

/-- A complete configuration (0.6, R171). -/
structure Profile where
  agent : AgentSettings
  ports : PerPort PortRecord
  rules : List (Option Rule)
deriving DecidableEq, Repr

/-- The two banks (R171). -/
inductive BankId where
  | a | b
deriving DecidableEq, Repr

/-- A bank: the erase count of its header, its body by bank offset (4 to 3167), and the validity the store keeps (R171,
R172). -/
structure Bank where
  eraseCount : Count
  body : Memory
  valid : Bool
deriving DecidableEq, Repr

/-- A commit in progress: target, generation to be written, captured image (chapter 8). -/
structure CommitJob where
  target : BankId
  generation : BitVec 32
  image : Profile
deriving DecidableEq, Repr

/-- The store state (R174); LOADING for a LOAD command and LOADING for a start-up load are told apart by their source. -/
inductive StoreState where
  | idle
  | committing (job : CommitJob)
  | loading (source : BankId)
  | startup (source : Option BankId)
deriving DecidableEq, Repr

/-- The profile store. -/
structure Store where
  bankA : Bank
  bankB : Bank
  state : StoreState
deriving DecidableEq, Repr

/-! ### Pool, resets, supply -/

/-- The frame pool (2.6): free list, reference counts, frame lengths, the buffers' bytes (byte i of buffer b at address
256 b + i) and the watermark. -/
structure Pool where
  free : List Nat
  refs : List Nat
  lens : List Nat
  ram : Memory
  watermark : Nat
deriving DecidableEq, Repr

/-- The five kinds of reset (0.5, R187). -/
inductive ResetCause where
  | power | supply | pin | cold | warm
deriving DecidableEq, Repr

/-- What the supply monitor makes of VDD (R193): the supply is up; a POWER or a SUPPLY reset is held; VDD is below 1.2 V. -/
inductive Supply where
  | ok | heldPower | heldSupply | lost
deriving DecidableEq, Repr

end Sys2Proof.Machine
end

