-- ==== Sys2Proof/Machine/Fresh.lean ====
section
/-! DEFINITION. The values blocks are set to: the factory profile (R188) and each block's state after a reset of the cold
kinds (R20, R41, R86, R117, R148, R153, R154, R159, R169). -/

namespace Sys2Proof.Machine

/-- No error kind. -/
def ErrorSet.empty : ErrorSet := ⟨false, false, false, false, false⟩

/-- No alert cause. -/
def CauseSet.empty : CauseSet := ⟨false, false, false, false, false⟩

/-- All five alert causes. -/
def CauseSet.full : CauseSet := ⟨true, true, true, true, true⟩

/-- The factory record of port 0 (R188). -/
def factoryTrunk : PortRecord :=
  ⟨true, ⟨.uplink, 4, .even, false, .check16, 8, none, true⟩⟩

/-- The factory record of ports 1 to 4 (R188). -/
def factorySegment : PortRecord :=
  ⟨false, ⟨.field, 4, .even, false, .check16, 8, some ⟨100, 200, 50, 20⟩, false⟩⟩

/-- The factory agent settings (R188): address 250, every cause masked in, 1000 ms. -/
def factoryAgent : AgentSettings := ⟨250#8, CauseSet.full, 1000⟩

/-- The factory profile (R188). -/
def factoryProfile : Profile :=
  ⟨factoryAgent, ⟨factoryTrunk, PerSeg.all factorySegment⟩, List.replicate Config.ruleEntries none⟩

/-- A receiver in a given state with its tests and timer stopped. -/
def Receiver.fresh (st : RxState) : Receiver := ⟨st, none, false, none⟩

/-- A transmitter in a given state. -/
def Transmitter.fresh (st : TxState) : Transmitter := ⟨st, none⟩

/-- An empty transmit queue (R72, R79). -/
def TxQueue.empty : TxQueue := ⟨[], [], 0⟩

/-- All sixteen counters 0 (R153). -/
def PortCounters.zero : PortCounters := ⟨0, 0, 0, 0, 0, 0, 0, 0, 0, 0, 0, 0, 0, 0, 0, 0⟩

/-- All eight exchange counters 0 (R153). -/
def ExchangeCounters.zero : ExchangeCounters := ⟨0, 0, 0, 0, 0, 0, 0, 0⟩

/-- A port stopped by a cold-kind reset, with a given record standing in its active record until the start-up load has
completed (R20; the record's value in that time is log 12). -/
def PortState.stopped (r : PortRecord) : PortState :=
  ⟨r.enabled, r.settings, none, Receiver.fresh .off, Transmitter.fresh .off, TxQueue.empty, none, none, PortCounters.zero, none⟩

/-- The slot of a segment in role `r`: in use and FREE, or out of use (R87, R117). -/
def Slot.forRole (r : Role) : Slot :=
  match r with
  | .field => .free
  | .uplink => .outOfUse

/-- A segment wiped by a cold-kind reset (R117). -/
def SegState.wiped : SegState := ⟨Slot.forRole factorySegment.settings.role, 0#16, ExchangeCounters.zero⟩

/-- The alert unit after a cold-kind reset, before RESTARTED is raised (R169). -/
def AlertUnit.wiped : AlertUnit := ⟨.quiet, 0#8, CauseSet.empty, none, 0, none⟩

/-- The agent after a cold-kind reset, before the start-up load sets its settings (R148). -/
def Agent.wiped : Agent := ⟨.idle, [], none, none, factoryAgent, 0⟩

/-- Every reference count 0 and the free list 0, 1, ..., 63 (R41, R42), with a given watermark. The buffers' bytes are not
cleared (R41). -/
def Pool.afresh (m : Pool) (watermark : Nat) : Pool :=
  { m with
    free := List.range Config.poolBuffers
    refs := List.replicate Config.poolBuffers 0
    watermark := watermark }

/-- The pool of a part that has just been powered: nothing stored (log 14). -/
def Pool.blank : Pool :=
  Pool.afresh ⟨[], [], List.replicate Config.poolBuffers 0, [], 0⟩ Config.poolBuffers

/-- A bank as it leaves manufacture: body cleared, erase count 0 (R171), not valid (R172). -/
def Bank.manufactured : Bank := ⟨0#32, [], false⟩

/-- The rule table with every entry invalid (R63). -/
def emptyTable : List (Option Entry) := List.replicate Config.ruleEntries none

/-- Every port stopped with the factory records (R20, log 12). -/
def stoppedPorts : PerPort PortState :=
  ⟨PortState.stopped factoryTrunk, PerSeg.all (PortState.stopped factorySegment)⟩

end Sys2Proof.Machine
end

