-- ==== Sys2Proof/Machine/State.lean ====
section
/-! DEFINITION. The state of the block, the reasons a step can stop, and the state right after a POWER reset. -/

namespace Sys2Proof.Machine

/-- Why a step faults. -/
inductive Fault where
  /-- Raised by COMMIT_COMPLETION alone, for a command that names a memory cell outside a bank's body (9.6 lays a bank out
  and has no such cell). Safe: the model stops where the part has no such event. -/
  | noSuchCell
deriving DecidableEq, Repr

/-- Why a step is refused. -/
inductive Refusal where
  /-- Raised by a refused arm of exec for a command that has no meaning yet. Safe. No arm raises it. -/
  | notModelled (mnemonic : String)
deriving DecidableEq, Repr

/-- The whole state of the FG416 and the queue of commands that wait, first in first out. INVENTORY.md names the rule and
the reset value of each field. -/
structure State where
  /-- the commands that wait, the next one first -/
  pending : List Instr
  /-- the model's own count of 1/288 microseconds of the clock input; the timers hold instants of it (log 2) -/
  now : Nat
  /-- the 32-bit time base (R22) -/
  timeBase : Stamp
  /-- the part of a microsecond since the time base last counted, in fine units (R22, log 2) -/
  subMicro : Nat
  /-- CLKIN runs (R194) -/
  clockRunning : Bool
  /-- the supply monitor (R193) -/
  supply : Supply
  /-- RSTN holds a PIN reset (R192) -/
  pinHeld : Bool
  /-- the reset cause record (R187) -/
  resetCause : ResetCause
  /-- the model's own counter that a free value is read with (log 5) -/
  freeCount : Nat
  /-- the frame pool (2.6) -/
  pool : Pool
  /-- the five ports (chapters 1, 2, 4, 7) -/
  ports : PerPort PortState
  /-- the four exchange slots with their numbers and counters (chapter 5, R151) -/
  segs : PerSeg SegState
  /-- the trunk's alert lane (R77) -/
  alertLane : Option (List Byte)
  /-- the rule table, 128 entries (R43) -/
  rules : List (Option Entry)
  /-- the management agent (chapter 6) -/
  agent : Agent
  /-- the alert unit (7.3) -/
  alert : AlertUnit
  /-- the profile store (chapter 8) -/
  store : Store
deriving DecidableEq, Repr

/-- The part right after a POWER reset: VDD has risen through 1.2 V, the supply monitor still holds the reset (R193), the
part is as it left manufacture (R171) and nothing waits. SUPPLY_RELEASE and STARTUP_LOAD_COMPLETION bring the ports up
(log 13). -/
def State.reset : State where
  pending := []
  now := 0
  timeBase := 0#32
  subMicro := 0
  clockRunning := true
  supply := .heldPower
  pinHeld := false
  resetCause := .power
  freeCount := 0
  pool := Pool.blank
  ports := stoppedPorts
  segs := PerSeg.all SegState.wiped
  alertLane := none
  rules := emptyTable
  agent := Agent.wiped
  alert := AlertUnit.wiped
  store := ⟨Bank.manufactured, Bank.manufactured, .idle⟩

end Sys2Proof.Machine
end

