-- ==== Sys2Proof/Machine/Memory.lean ====
section
/-! DEFINITION. The memory of the pool's buffers and of the banks: a list of (address, byte) cells in one canonical form. -/

namespace Sys2Proof.Machine

/-- The canonical form: addresses strictly rising, no cell that holds what an unlisted address reads as. -/
abbrev Memory.wf (m : Memory) : Prop :=
  List.Pairwise (fun c d => c.1 < d.1) m ∧ ∀ c ∈ m, c.2 ≠ Config.blankByte

/-- The byte at address `a`; an unlisted address reads as `Config.blankByte`. -/
def Memory.read (m : Memory) (a : Nat) : Byte :=
  match m with
  | [] => Config.blankByte
  | c :: rest => if c.1 = a then c.2 else Memory.read rest a

/-- A cell in canonical form: none for the byte an unlisted address reads as. -/
def Memory.cell (a : Nat) (v : Byte) : Memory := if v = Config.blankByte then [] else [(a, v)]

/-- Store one byte, keeping the canonical form. -/
def Memory.write (m : Memory) (a : Nat) (v : Byte) : Memory :=
  match m with
  | [] => Memory.cell a v
  | c :: rest =>
    if a < c.1 then Memory.cell a v ++ c :: rest
    else if a = c.1 then Memory.cell a v ++ rest
    else c :: Memory.write rest a v

/-- Store consecutive bytes from address `a` on. -/
def Memory.writeBytes (m : Memory) (a : Nat) (bytes : List Byte) : Memory :=
  match bytes with
  | [] => m
  | v :: rest => Memory.writeBytes (m.write a v) (a + 1) rest

/-- The memory that holds exactly these consecutive bytes from address `a` on, built in one pass. -/
def Memory.ofBytes (a : Nat) (bytes : List Byte) : Memory :=
  match bytes with
  | [] => []
  | v :: rest => Memory.cell a v ++ Memory.ofBytes (a + 1) rest

/-- `n` consecutive bytes from address `a` on. -/
def Memory.readBytes (m : Memory) (a n : Nat) : List Byte :=
  (List.range n).map fun i => m.read (a + i)

/-- The address of byte `offset` of pool buffer `b` (log 14). -/
def bufferAddress (b offset : Nat) : Nat := Config.bufferBytes * b + offset

end Sys2Proof.Machine
end

