-- ==== Sys2Proof/Machine/Flags.lean ====
section
/-! DEFINITION. The fault computations of a character (R8), the 16-bit check (R29), error sets (R28, R31), cause sets (R160)
and port sets, and the counters (R149). -/

namespace Sys2Proof.Machine

/-! ### Characters -/

/-- The number of ones among the data bits. -/
def onesOf (b : Byte) : Nat :=
  ((List.range 8).map fun i => if b.getLsbD i then 1 else 0).sum

/-- The parity bit a sender of this format adds (R7): with E the ones of data and parity bit together are even, with O odd. -/
def parityBitFor (p : Parity) (b : Byte) : Bool :=
  match p with
  | .none => false
  | .even => onesOf b % 2 == 1
  | .odd => onesOf b % 2 == 0

/-- A parity fault: the sampled parity bit does not match the data bits (R8). Without a parity bit there is none. -/
def parityFault (p : Parity) (b : Byte) (sampled : Bool) : Bool :=
  match p with
  | .none => false
  | .even | .odd => sampled != parityBitFor p b

/-! ### The 16-bit check (R29) -/

/-- One left shift of the check register; a one shifted out of the top combines 0x1021 in. -/
def checkShift (r : BitVec 16) : BitVec 16 :=
  if r.getMsbD 0 then (r <<< 1) ^^^ 0x1021#16 else r <<< 1

/-- `n` shifts. -/
def checkShifts (n : Nat) (r : BitVec 16) : BitVec 16 :=
  match n with
  | 0 => r
  | n + 1 => checkShifts n (checkShift r)

/-- One byte into the check register. -/
def checkByte (r : BitVec 16) (b : Byte) : BitVec 16 :=
  checkShifts 8 (r ^^^ (b.setWidth 16 <<< 8))

/-- The check computed over a run of bytes, from 0xFFFF, with no final inversion. -/
def checkOf (bytes : List Byte) : BitVec 16 := bytes.foldl checkByte 0xFFFF#16

/-- The two check bytes, high byte first. -/
def checkBytes (bytes : List Byte) : List Byte :=
  [((checkOf bytes) >>> 8).setWidth 8, (checkOf bytes).setWidth 8]

/-- A frame the part builds for itself ends with its check (0.5, R190). -/
def withCheck (bytes : List Byte) : List Byte := bytes ++ checkBytes bytes

/-- The frame passes the check: length 3 or more and the check of all but the last two bytes is in them (R29). -/
def passesCheck (frame : List Byte) : Bool :=
  decide (3 ≤ frame.length) && frame.drop (frame.length - 2) == checkBytes (frame.take (frame.length - 2))

/-! ### Error sets -/

/-- No error kind is in the set. -/
def ErrorSet.isEmpty (e : ErrorSet) : Bool := e == ErrorSet.empty

/-- The faults of one character join the set (R26). -/
def ErrorSet.addFaults (e : ErrorSet) (parity framing : Bool) : ErrorSet :=
  { e with parity := e.parity || parity, framing := e.framing || framing }

/-- The first kind present in the order PARITY, FRAMING, BREAK, OVERLENGTH, CHECK (R31, R155). -/
def ErrorSet.firstKind (e : ErrorSet) : SnapshotKind :=
  if e.parity then .parity
  else if e.framing then .framing
  else if e.brk then .brk
  else if e.overlength then .overlength
  else .check

/-! ### Cause sets and port sets -/

/-- The cause is in the set. -/
def CauseSet.has (c : CauseSet) (k : Cause) : Bool :=
  match k with
  | .pool => c.pool
  | .snapshot => c.snapshot
  | .exchange => c.exchange
  | .store => c.store
  | .restarted => c.restarted

/-- The set with one more cause; a cause already there stays once (R160). -/
def CauseSet.add (c : CauseSet) (k : Cause) : CauseSet :=
  match k with
  | .pool => { c with pool := true }
  | .snapshot => { c with snapshot := true }
  | .exchange => { c with exchange := true }
  | .store => { c with store := true }
  | .restarted => { c with restarted := true }

/-- The set holds no cause. -/
def CauseSet.isEmpty (c : CauseSet) : Bool := c == CauseSet.empty

/-- The set holds no port. -/
def PortSet.isEmpty (s : PortSet) : Bool := s == PerPort.all false

/-! ### Counters (R149) -/

/-- The value of one port counter. -/
def PortCounters.get (c : PortCounters) : PortCounter → Count
  | .rxframes => c.rxframes
  | .txframes => c.txframes
  | .parity => c.parity
  | .framing => c.framing
  | .brk => c.brk
  | .overlength => c.overlength
  | .checkfail => c.checkfail
  | .nobuf => c.nobuf
  | .unmatched => c.unmatched
  | .misroute => c.misroute
  | .qfull => c.qfull
  | .aborted => c.aborted
  | .orphan => c.orphan
  | .noticelost => c.noticelost
  | .agentbad => c.agentbad
  | .agentovf => c.agentovf

/-- One port counter incremented, saturating. -/
def PortCounters.bump (c : PortCounters) (k : PortCounter) : PortCounters :=
  match k with
  | .rxframes => { c with rxframes := c.rxframes.bump }
  | .txframes => { c with txframes := c.txframes.bump }
  | .parity => { c with parity := c.parity.bump }
  | .framing => { c with framing := c.framing.bump }
  | .brk => { c with brk := c.brk.bump }
  | .overlength => { c with overlength := c.overlength.bump }
  | .checkfail => { c with checkfail := c.checkfail.bump }
  | .nobuf => { c with nobuf := c.nobuf.bump }
  | .unmatched => { c with unmatched := c.unmatched.bump }
  | .misroute => { c with misroute := c.misroute.bump }
  | .qfull => { c with qfull := c.qfull.bump }
  | .aborted => { c with aborted := c.aborted.bump }
  | .orphan => { c with orphan := c.orphan.bump }
  | .noticelost => { c with noticelost := c.noticelost.bump }
  | .agentbad => { c with agentbad := c.agentbad.bump }
  | .agentovf => { c with agentovf := c.agentovf.bump }

/-- The port counters in catalogue order (R150). -/
def PortCounters.inOrder (c : PortCounters) : List Count :=
  [c.rxframes, c.txframes, c.parity, c.framing, c.brk, c.overlength, c.checkfail, c.nobuf, c.unmatched, c.misroute, c.qfull,
    c.aborted, c.orphan, c.noticelost, c.agentbad, c.agentovf]

/-- The value of one exchange counter. -/
def ExchangeCounters.get (c : ExchangeCounters) : ExchangeCounter → Count
  | .exchanges => c.exchanges
  | .replied => c.replied
  | .timeouts => c.timeouts
  | .badreplies => c.badreplies
  | .retries => c.retries
  | .failed => c.failed
  | .cancelled => c.cancelled
  | .late => c.late

/-- One exchange counter incremented, saturating. -/
def ExchangeCounters.bump (c : ExchangeCounters) (k : ExchangeCounter) : ExchangeCounters :=
  match k with
  | .exchanges => { c with exchanges := c.exchanges.bump }
  | .replied => { c with replied := c.replied.bump }
  | .timeouts => { c with timeouts := c.timeouts.bump }
  | .badreplies => { c with badreplies := c.badreplies.bump }
  | .retries => { c with retries := c.retries.bump }
  | .failed => { c with failed := c.failed.bump }
  | .cancelled => { c with cancelled := c.cancelled.bump }
  | .late => { c with late := c.late.bump }

/-- The exchange counters in catalogue order (R151). -/
def ExchangeCounters.inOrder (c : ExchangeCounters) : List Count :=
  [c.exchanges, c.replied, c.timeouts, c.badreplies, c.retries, c.failed, c.cancelled, c.late]

end Sys2Proof.Machine
end

