-- ==== Sys2Proof/Machine/Operands.lean ====
section
/-! DEFINITION. The byte layouts of chapter 9: value codes, settings blocks, rule entries, agent settings, bank images, and
the reading of a request frame. Each encoder stands beside its decoder; a decoder makes the range checks of R3, R51, R143
and R189 and answers none where one fails. -/

namespace Sys2Proof.Machine

/-! ### Numbers (9.1) -/

/-- A number as one byte. -/
def byteOf (n : Nat) : Byte := BitVec.ofNat 8 n

/-- Two bytes, most significant first. -/
def be16 (n : Nat) : List Byte := [byteOf (n / 256), byteOf n]

/-- Four bytes, most significant first. -/
def be32 (n : Nat) : List Byte := [byteOf (n / 16777216), byteOf (n / 65536), byteOf (n / 256), byteOf n]

/-- The number in two bytes. -/
def word16 (hi lo : Byte) : Nat := 256 * hi.toNat + lo.toNat

/-- The number in a run of bytes, most significant first. -/
def numberOf (bytes : List Byte) : Nat := bytes.foldl (fun n b => 256 * n + b.toNat) 0

/-- An absent field of `n` bytes (9.1). -/
def absent (n : Nat) : List Byte := List.replicate n 0xFF#8

/-- Yes / no (9.1). -/
def yesNo (b : Bool) : Byte := if b then 0x01#8 else 0x00#8

/-- Reading yes / no. -/
def yesNo? (b : Byte) : Option Bool :=
  if b = 0x00#8 then some false else if b = 0x01#8 then some true else none

/-! ### Names (9.1, 9.1.1) -/

/-- Reading a port number, 0 to 4. -/
def port? (b : Byte) : Option Port :=
  match b.toNat with
  | 0 => some .trunk
  | 1 => some (.seg .seg1)
  | 2 => some (.seg .seg2)
  | 3 => some (.seg .seg3)
  | 4 => some (.seg .seg4)
  | _ => none

/-- Reading a segment number, 1 to 4. -/
def seg? (b : Byte) : Option Seg :=
  match port? b with
  | some (.seg s) => some s
  | _ => none

/-- A port set as a byte: bit n for port n (9.1). -/
def PortSet.code (s : PortSet) : Byte :=
  byteOf ((if s.trunk then 1 else 0) + (if s.segs.seg1 then 2 else 0) + (if s.segs.seg2 then 4 else 0)
    + (if s.segs.seg3 then 8 else 0) + (if s.segs.seg4 then 16 else 0))

/-- Reading a port set: bits 5 to 7 must be clear. -/
def portSet? (b : Byte) : Option PortSet :=
  if b.toNat < 32 then
    some ⟨b.getLsbD 0, ⟨b.getLsbD 1, b.getLsbD 2, b.getLsbD 3, b.getLsbD 4⟩⟩
  else none

/-- Reading a non-empty port set (R51). -/
def nonEmptyPortSet? (b : Byte) : Option PortSet :=
  (portSet? b).filter fun s => !PortSet.isEmpty s

/-- A cause set as a byte (9.1). -/
def CauseSet.code (c : CauseSet) : Byte :=
  byteOf ((if c.pool then 1 else 0) + (if c.snapshot then 2 else 0) + (if c.exchange then 4 else 0)
    + (if c.store then 8 else 0) + (if c.restarted then 16 else 0))

/-- Reading a cause set: bits 5 to 7 must be clear. -/
def causeSet? (b : Byte) : Option CauseSet :=
  if b.toNat < 32 then
    some ⟨b.getLsbD 0, b.getLsbD 1, b.getLsbD 2, b.getLsbD 3, b.getLsbD 4⟩
  else none

/-- Role code. -/
def Role.code : Role → Byte
  | .field => 0x00#8
  | .uplink => 0x01#8

/-- Reading a role code. -/
def role? (b : Byte) : Option Role :=
  if b = 0x00#8 then some .field else if b = 0x01#8 then some .uplink else none

/-- Parity code. -/
def Parity.code : Parity → Byte
  | .none => 0x00#8
  | .even => 0x01#8
  | .odd => 0x02#8

/-- Reading a parity code. -/
def parity? (b : Byte) : Option Parity :=
  if b = 0x00#8 then some .none else if b = 0x01#8 then some .even else if b = 0x02#8 then some .odd else none

/-- Stop-bits code. -/
def stopCode (two : Bool) : Byte := if two then 0x02#8 else 0x01#8

/-- Reading a stop-bits code. -/
def stop? (b : Byte) : Option Bool :=
  if b = 0x01#8 then some false else if b = 0x02#8 then some true else none

/-- Check mode code. -/
def CheckMode.code : CheckMode → Byte
  | .none => 0x00#8
  | .check16 => 0x01#8

/-- Reading a check mode code. -/
def checkMode? (b : Byte) : Option CheckMode :=
  if b = 0x00#8 then some .none else if b = 0x01#8 then some .check16 else none

/-- Priority code. -/
def Priority.code : Priority → Byte
  | .normal => 0x00#8
  | .urgent => 0x01#8

/-- Reading a priority code. -/
def priority? (b : Byte) : Option Priority :=
  if b = 0x00#8 then some .normal else if b = 0x01#8 then some .urgent else none

/-- Receiver state code. -/
def RxState.code : RxState → Byte
  | .off => 0x00#8
  | .idle => 0x01#8
  | .assembling _ => 0x02#8
  | .discarding _ => 0x03#8
  | .muted => 0x04#8

/-- Transmitter state code. -/
def TxState.code : TxState → Byte
  | .off => 0x00#8
  | .idle => 0x01#8
  | .waiting => 0x02#8
  | .sending _ _ => 0x03#8

/-- Slot state code; 0xFF for a slot out of use. -/
def Slot.code : Slot → Byte
  | .outOfUse => 0xFF#8
  | .free => 0x00#8
  | .sendingExchange _ => 0x01#8
  | .sendingNoAnswer => 0x01#8
  | .awaiting _ _ => 0x02#8
  | .receiving _ => 0x03#8
  | .lapsed _ _ => 0x04#8
  | .resend _ => 0x05#8
  | .settling _ => 0x06#8

/-- Slot kind in SENDING; absent in every other state (9.5.5). -/
def Slot.kindCode : Slot → Byte
  | .sendingExchange _ => 0x00#8
  | .sendingNoAnswer => 0x01#8
  | .outOfUse | .free | .awaiting _ _ | .receiving _ | .lapsed _ _ | .resend _ | .settling _ => 0xFF#8

/-- Last attempt result code. -/
def AttemptResult.code : AttemptResult → Byte
  | .none => 0x00#8
  | .timeout => 0x01#8
  | .badReply => 0x02#8

/-- Snapshot kind code. -/
def SnapshotKind.code : SnapshotKind → Byte
  | .parity => 0x00#8
  | .framing => 0x01#8
  | .brk => 0x02#8
  | .overlength => 0x03#8
  | .check => 0x04#8
  | .nobuf => 0x05#8

/-- Alert state code. -/
def AlertState.code : AlertState → Byte
  | .quiet => 0x00#8
  | .outstanding => 0x01#8
  | .stalled => 0x02#8

/-- Agent state code. -/
def AgentMode.code : AgentMode → Byte
  | .idle => 0x00#8
  | .replyWait _ _ => 0x01#8

/-- Reset cause code. -/
def ResetCause.code : ResetCause → Byte
  | .power => 0x00#8
  | .supply => 0x01#8
  | .pin => 0x02#8
  | .cold => 0x03#8
  | .warm => 0x04#8

/-- Notice reason code. -/
def NoticeReason.code : NoticeReason → Byte
  | .timeout => 0x01#8
  | .badReply => 0x02#8
  | .queueFull => 0x03#8
  | .noRoute => 0x04#8
  | .cancelled => 0x05#8

/-- Outcome code (9.3). -/
def CommandOutcome.code : CommandOutcome → Byte
  | .done => 0x00#8
  | .busy => 0x01#8
  | .badCmd => 0x02#8
  | .badArg => 0x03#8
  | .noEntry => 0x04#8
  | .storeFail => 0x05#8

/-! ### Settings (9.5.1) -/

/-- The four timing fields of a settings block, absent on the trunk. -/
def timingBytes (t : Option SegTiming) : List Byte :=
  match t with
  | none => absent 8
  | some t => be16 t.guard ++ be16 t.response ++ be16 t.lapse ++ be16 t.settle

/-- The 15-byte settings block. -/
def Settings.encode (st : Settings) : List Byte :=
  [st.role.code, byteOf st.rate, st.parity.code, stopCode st.twoStops, st.checkMode.code, byteOf st.gapHalf]
    ++ timingBytes st.timing ++ [yesNo st.mgmt]

/-- The timing ranges of 1.2. -/
def SegTiming.inRange (t : SegTiming) : Bool :=
  decide (t.guard ≤ 2000) && decide (5 ≤ t.response) && decide (t.response ≤ 10000) && decide (t.lapse ≤ 1000)
    && decide (t.settle ≤ 1000)

/-- The checks of R3 on a settings record offered for port `p`: every field in its range, and on the trunk UPLINK, management
permitted and the four timing fields absent. -/
def Settings.inRange (p : Port) (st : Settings) : Bool :=
  decide (st.rate ≤ 8) && decide (4 ≤ st.gapHalf) && decide (st.gapHalf ≤ 80) &&
    match p, st.timing with
    | .trunk, none => decide (st.role = .uplink) && st.mgmt
    | .seg _, some t => t.inRange
    | _, _ => false

/-- Reading a settings block offered for port `p` (R3, R189). On port 0 the eight bytes of the absent fields are not read. -/
def settings? (p : Port) (bytes : List Byte) : Option Settings :=
  match bytes with
  | [ro, ra, pa, st, ch, ga, g1, g0, r1, r0, l1, l0, s1, s0, mg] =>
    match role? ro, parity? pa, stop? st, checkMode? ch, yesNo? mg with
    | some role, some parity, some two, some mode, some mgmt =>
      let timing : Option SegTiming :=
        match p with
        | .trunk => none
        | .seg _ => some ⟨word16 g1 g0, word16 r1 r0, word16 l1 l0, word16 s1 s0⟩
      some (⟨role, ra.toNat, parity, two, mode, ga.toNat, timing, mgmt⟩ : Settings) |>.filter (Settings.inRange p)
    | _, _, _, _, _ => none
  | _ => none

/-- The 16-byte full settings record. -/
def PortRecord.encode (r : PortRecord) : List Byte := yesNo r.enabled :: r.settings.encode

/-- The checks of R172 on a bank's port record: R3, and the trunk enabled. -/
def PortRecord.inRange (p : Port) (r : PortRecord) : Bool :=
  r.settings.inRange p && (r.enabled || decide (p ≠ .trunk))

/-- Reading a bank's full settings record for port `p` (R172). -/
def portRecord? (p : Port) (bytes : List Byte) : Option PortRecord :=
  match bytes with
  | en :: block =>
    match yesNo? en, settings? p block with
    | some enabled, some settings => some (⟨enabled, settings⟩ : PortRecord) |>.filter (PortRecord.inRange p)
    | _, _ => none
  | [] => none

/-! ### Rule entries (9.5.2) -/

/-- The five bytes of an action and its parameters, absent ones as 0xFF. -/
def Action.encode (a : Action) : List Byte :=
  match a with
  | .drop => [0x00#8, 0xFF#8, 0xFF#8, 0xFF#8, 0xFF#8]
  | .forward targets pr => [0x01#8, PortSet.code targets, pr.code, 0xFF#8, 0xFF#8]
  | .exchange target pr retries notice => [0x02#8, byteOf target.num, pr.code, byteOf retries, yesNo notice]

/-- The byte tests in their written order. -/
def testsBytes (ts : List ByteTest) : List Byte :=
  ts.flatMap fun t => [byteOf t.offset, t.value, t.mask]

/-- The entry encoding, 11 + 3 n bytes. -/
def Rule.encode (r : Rule) : List Byte :=
  [PortSet.code r.sources] ++ be16 r.minLength ++ be16 r.maxLength ++ r.action.encode ++ [byteOf r.tests.length]
    ++ testsBytes r.tests

/-- The checks of R51 on the contents of an entry. -/
def Rule.inRange (r : Rule) : Bool :=
  !PortSet.isEmpty r.sources && decide (1 ≤ r.minLength) && decide (r.minLength ≤ r.maxLength) &&
    decide (r.maxLength ≤ 256) && decide (r.tests.length ≤ 4) && (r.tests.all fun t => decide (t.offset ≤ 255)) &&
    match r.action with
    | .drop => true
    | .forward targets _ => !PortSet.isEmpty targets
    | .exchange _ _ retries _ => decide (retries ≤ 3)

/-- Reading an action and the parameters it carries; the others are not read (R52). -/
def action? (ac ta pr re no : Byte) : Option Action :=
  if ac = 0x00#8 then some .drop
  else if ac = 0x01#8 then
    match portSet? ta, priority? pr with
    | some targets, some p => some (.forward targets p)
    | _, _ => none
  else if ac = 0x02#8 then
    match seg? ta, priority? pr, yesNo? no with
    | some target, some p, some notice => some (.exchange target p re.toNat notice)
    | _, _, _ => none
  else none

/-- Reading exactly `n` byte tests. -/
def tests? (n : Nat) (bytes : List Byte) : Option (List ByteTest) :=
  match n, bytes with
  | 0, [] => some []
  | n + 1, o :: v :: m :: rest => (tests? n rest).map fun ts => ⟨o.toNat, v, m⟩ :: ts
  | _, _ => none

/-- Reading an entry encoding of exactly the length its test count gives (R51, R135). -/
def rule? (bytes : List Byte) : Option Rule :=
  match bytes with
  | so :: n1 :: n0 :: x1 :: x0 :: ac :: ta :: pr :: re :: no :: cnt :: rest =>
    match portSet? so, action? ac ta pr re no, tests? cnt.toNat rest with
    | some sources, some action, some tests =>
      some (⟨sources, word16 n1 n0, word16 x1 x0, tests, action⟩ : Rule) |>.filter Rule.inRange
    | _, _, _ => none
  | _ => none

/-! ### Agent settings (9.5.7, 9.6) -/

/-- Address, mask and interval, 4 bytes. -/
def AgentSettings.encode (a : AgentSettings) : List Byte := [a.address, a.mask.code] ++ be16 a.interval

/-- The range checks of R143. -/
def AgentSettings.inRange (a : AgentSettings) : Bool :=
  decide (1 ≤ a.address.toNat) && decide (a.address.toNat ≤ 254) && decide (100 ≤ a.interval) && decide (a.interval ≤ 10000)

/-- Reading agent settings (R143). -/
def agentSettings? (bytes : List Byte) : Option AgentSettings :=
  match bytes with
  | [ad, ma, i1, i0] =>
    match causeSet? ma with
    | some mask => some (⟨ad, mask, word16 i1 i0⟩ : AgentSettings) |>.filter AgentSettings.inRange
    | none => none
  | _ => none

/-! ### Bank image (9.6) -/

/-- A 24-byte rule slot: a validity byte, the entry encoding, zeros to the slot's end; an invalid entry's slot is all zeros. -/
def ruleSlotBytes (r : Option Rule) : List Byte :=
  match r with
  | none => List.replicate 24 0x00#8
  | some r => yesNo true :: (r.encode ++ List.replicate (23 - r.encode.length) 0x00#8)

/-- Reading a rule slot (R172): none when the slot fails a field check, some none for an invalid entry. -/
def ruleSlot? (bytes : List Byte) : Option (Option Rule) :=
  match bytes with
  | v :: rest =>
    match yesNo? v with
    | some false => some none
    | some true => (rule? (rest.take (11 + 3 * (rest.getD 10 0xFF#8).toNat))).map some
    | none => none
  | [] => none

/-- `k` consecutive pieces of `n` bytes. -/
def pieces (n k : Nat) (bytes : List Byte) : List (List Byte) :=
  match k with
  | 0 => []
  | k + 1 => bytes.take n :: pieces n k (bytes.drop n)

/-- Reading every piece, none when one fails. -/
def readAll {α β : Type} (f : α → Option β) (xs : List α) : Option (List β) :=
  match xs with
  | [] => some []
  | x :: rest =>
    match f x, readAll f rest with
    | some y, some ys => some (y :: ys)
    | _, _ => none

/-- The five port records of an image, ports 0 to 4 in order. -/
def portRecordsBytes (ps : PerPort PortRecord) : List Byte :=
  ps.trunk.encode ++ ps.segs.seg1.encode ++ ps.segs.seg2.encode ++ ps.segs.seg3.encode ++ ps.segs.seg4.encode

/-- Reading the five port records. -/
def portRecords? (bytes : List Byte) : Option (PerPort PortRecord) :=
  match portRecord? .trunk (bytes.take 16), portRecord? (.seg .seg1) ((bytes.drop 16).take 16),
      portRecord? (.seg .seg2) ((bytes.drop 32).take 16), portRecord? (.seg .seg3) ((bytes.drop 48).take 16),
      portRecord? (.seg .seg4) ((bytes.drop 64).take 16) with
  | some t, some a, some b, some c, some d => some ⟨t, ⟨a, b, c, d⟩⟩
  | _, _, _, _, _ => none

/-- The 3156 image bytes of bank offsets 8 to 3163. -/
def Profile.encode (p : Profile) : List Byte :=
  p.agent.encode ++ portRecordsBytes p.ports ++ p.rules.flatMap ruleSlotBytes

/-- Every field of the profile passes the checks of R172. -/
def Profile.inRange (p : Profile) : Bool :=
  p.agent.inRange && p.ports.trunk.inRange .trunk && p.ports.segs.seg1.inRange (.seg .seg1)
    && p.ports.segs.seg2.inRange (.seg .seg2) && p.ports.segs.seg3.inRange (.seg .seg3)
    && p.ports.segs.seg4.inRange (.seg .seg4) && decide (p.rules.length = Config.ruleEntries)
    && p.rules.all fun r => match r with | none => true | some r => r.inRange

/-- Reading an image: none when a field fails its check (R172). -/
def profile? (bytes : List Byte) : Option Profile :=
  match agentSettings? (bytes.take 4), portRecords? ((bytes.drop 4).take 80),
      readAll ruleSlot? (pieces 24 Config.ruleEntries (bytes.drop 84)) with
  | some agent, some ports, some rules => some ⟨agent, ports, rules⟩
  | _, _, _ => none

/-! ### Requests (9.2, 9.3) -/

/-- The command in a request frame, taken while `address` is the agent address in force. -/
def Request.ofFrame (source : Port) (address : Byte) (frame : List Byte) : Request where
  source := source
  code := frame.getD 1 0x00#8
  tag := frame.getD 2 0x00#8
  body := (frame.drop 3).take (frame.length - 5)
  address := address

/-- The row of the command table that a taken request is (9.3, R122). A CLEAR COUNTERS or RESTART request whose form is none
of the table's counts as the first row of its command; every such request is answered BADARG (log 6). -/
def Request.row (r : Request) : Instr :=
  match r.code.toNat with
  | 0x01 => .identify
  | 0x02 => .readStatus
  | 0x10 => .readPort
  | 0x11 => .setPort
  | 0x12 => .enablePort
  | 0x13 => .disablePort
  | 0x20 => .readRule
  | 0x21 => .writeRule
  | 0x22 => .deleteRule
  | 0x23 => .readHits
  | 0x30 => .readCounters
  | 0x31 =>
    match r.body with
    | form :: _ => if form = 0x01#8 then .clearCountersAll else if form = 0x02#8 then .clearCountersHits else .clearCountersPort
    | [] => .clearCountersPort
  | 0x32 => .readExchange
  | 0x33 => .takeSnapshot
  | 0x40 => .ackAlert
  | 0x41 => .setAgent
  | 0x50 => .commit
  | 0x51 => .load
  | 0x52 => .readStore
  | 0x5F =>
    match r.body with
    | form :: _ => if form = 0x01#8 then .restartWarm else .restartCold
    | [] => .restartCold
  | _ => .unknownCommand

/-- A reply frame (9.2, R124): the address of the taking event, the request's code and tag, the outcome, the body of a DONE
reply, and the check. -/
def replyFrame (address code tag : Byte) (o : CommandOutcome) (body : List Byte) : List Byte :=
  withCheck ([address, code, tag, o.code] ++ if o = .done then body else [])

end Sys2Proof.Machine
end

