-- ==== Sys2Proof/Machine/Timing.lean ====
section
/-! DEFINITION. Bit and character times, the intervals of chapter 1 in the model's fine units, and the character's bits on
the line (R7, R11, R12, 0.5). -/

namespace Sys2Proof.Machine

/-- The bit rate of a rate code (R7). -/
def bitRate (code : Nat) : Nat :=
  match code with
  | 0 => 1200
  | 1 => 2400
  | 2 => 4800
  | 3 => 9600
  | 4 => 19200
  | 5 => 38400
  | 6 => 57600
  | 7 => 115200
  | _ => 230400

/-- One bit in fine units: the inverse of the bit rate, a whole number at every rate code. -/
def Settings.bitFine (st : Settings) : Nat := Config.finePerMicro * 1000000 / bitRate st.rate

/-- The bits of one character: start, 8 data, parity if used, stop bits (R7). -/
def Settings.characterBits (st : Settings) : Nat :=
  9 + (if st.parity = .none then 0 else 1) + (if st.twoStops then 2 else 1)

/-- One character time in fine units (R7). -/
def Settings.characterFine (st : Settings) : Nat := st.characterBits * st.bitFine

/-- The gap threshold in fine units (R11). -/
def Settings.gapFine (st : Settings) : Nat := st.gapHalf * st.characterFine / 2

/-- The turnaround guard in microseconds; the trunk has none (R14). -/
def Settings.guardMicros (st : Settings) : Nat := (st.timing.map (·.guard)).getD 0

/-- The response timeout in milliseconds. -/
def Settings.responseMillis (st : Settings) : Nat := (st.timing.map (·.response)).getD 0

/-- The lapse interval in milliseconds. -/
def Settings.lapseMillis (st : Settings) : Nat := (st.timing.map (·.lapse)).getD 0

/-- The settle time in milliseconds. -/
def Settings.settleMillis (st : Settings) : Nat := (st.timing.map (·.settle)).getD 0

/-- The line levels of one character, first bit first: start bit low, data bits least significant first, parity bit if used,
stop bits high (R7). -/
def Settings.characterLevels (st : Settings) (b : Byte) : List Bool :=
  false :: (List.range 8).map (b.getLsbD ·) ++ (if st.parity = .none then [] else [parityBitFor st.parity b])
    ++ (if st.twoStops then [true, true] else [true])

/-- The time base value at a fine instant near the present: whole microseconds counted from the last one, `subMicro` ago
(R22, R23, log 2). -/
def State.stampAt (s : State) (t : Nat) : Stamp :=
  s.timeBase + BitVec.ofInt 32 (((s.subMicro : Int) + t - s.now) / Config.finePerMicro)

/-- The fine instant of the end of a character whose first stop bit is sampled now: half a bit later, and a second stop bit
later still (R8, R23). -/
def State.characterEnd (s : State) (st : Settings) : Nat :=
  s.now + st.bitFine / 2 + (if st.twoStops then st.bitFine else 0)

/-- The fine instant of the leading edge of a start bit confirmed now: half a bit ago (R8). -/
def State.leadingEdge (s : State) (st : Settings) : Nat := s.now - st.bitFine / 2

/-- The instant at which a timer loaded now with `ms` milliseconds runs out (R91). -/
def State.timerDue (s : State) (ms : Nat) : Nat := s.now + Config.finePerMilli * ms

/-- The whole milliseconds left on a timer, rounded down (R89, R95). -/
def State.millisLeft (s : State) (due : Nat) : Nat := (due - s.now) / Config.finePerMilli

end Sys2Proof.Machine
end

