-- ==== Sys2Proof/Machine/Ops.lean ====
section
/-! DEFINITION. The named operations over the state that the commands share: field updates, the frame pool (R24, R37 to R42),
counters, snapshots (R155 to R157), alert causes and the forming of alerts (R160 to R162), transmit queues (R73), and
notices (R113, R114). -/

namespace Sys2Proof.Machine

/-! ### One home for each part of the state -/

/-- The state of port `p`. -/
def State.port (s : State) (p : Port) : PortState := s.ports.get p

/-- The slot, number and counters of a segment. -/
def State.seg (s : State) (sg : Seg) : SegState := s.segs.get sg

/-- Replace the state of port `p`. -/
def State.withPort (s : State) (p : Port) (x : PortState) : State := { s with ports := s.ports.set p x }

/-- Replace the state of a segment. -/
def State.withSeg (s : State) (sg : Seg) (x : SegState) : State := { s with segs := s.segs.set sg x }

/-- Replace the pool. -/
def State.withPool (s : State) (x : Pool) : State := { s with pool := x }

/-- Replace the agent. -/
def State.withAgent (s : State) (x : Agent) : State := { s with agent := x }

/-- Replace the alert unit. -/
def State.withAlert (s : State) (x : AlertUnit) : State := { s with alert := x }

/-- Replace the alert lane. -/
def State.withAlertLane (s : State) (x : Option (List Byte)) : State := { s with alertLane := x }

/-- Replace the store. -/
def State.withStore (s : State) (x : Store) : State := { s with store := x }

/-- Replace the rule table. -/
def State.withRules (s : State) (x : List (Option Entry)) : State := { s with rules := x }

/-- Replace the waiting commands. -/
def State.withPending (s : State) (x : List Instr) : State := { s with pending := x }

/-- Change a port's receiver. -/
def State.withRx (s : State) (p : Port) (x : Receiver) : State := s.withPort p { s.port p with rx := x }

/-- Change a port's transmitter. -/
def State.withTx (s : State) (p : Port) (x : Transmitter) : State := s.withPort p { s.port p with tx := x }

/-- Change a port's transmit queue. -/
def State.withQueue (s : State) (p : Port) (x : TxQueue) : State := s.withPort p { s.port p with queue := x }

/-- Change a port's reply lane. -/
def State.withLane (s : State) (p : Port) (x : Option Reply) : State := s.withPort p { s.port p with lane := x }

/-- Change the instant a port's turnaround guard counts from. -/
def State.withGuard (s : State) (p : Port) (x : Option Nat) : State := s.withPort p { s.port p with guardFrom := x }

/-- Change a port's pending settings record. -/
def State.withPendingSettings (s : State) (p : Port) (x : Option Settings) : State :=
  s.withPort p { s.port p with pendingSettings := x }

/-- Change a port's snapshot. -/
def State.withSnapshot (s : State) (p : Port) (x : Option Snapshot) : State := s.withPort p { s.port p with snapshot := x }

/-- Change a segment's slot. -/
def State.withSlot (s : State) (sg : Seg) (x : Slot) : State := s.withSeg sg { s.seg sg with slot := x }

/-- Count one port counter (R149, R150). -/
def State.count (s : State) (p : Port) (k : PortCounter) : State :=
  s.withPort p { s.port p with counters := (s.port p).counters.bump k }

/-- Count one exchange counter (R149, R151). -/
def State.countExchange (s : State) (sg : Seg) (k : ExchangeCounter) : State :=
  s.withSeg sg { s.seg sg with counters := (s.seg sg).counters.bump k }

/-- Count a port counter if a condition holds. -/
def State.countIf (s : State) (c : Bool) (p : Port) (k : PortCounter) : State := if c then s.count p k else s

/-- The port carries management (R1). -/
def State.managementEffective (s : State) (p : Port) : Bool :=
  match p with
  | .trunk => true
  | .seg _ => decide ((s.port p).settings.role = .uplink) && (s.port p).settings.mgmt

/-! ### The frame pool -/

/-- The reference count of buffer `b`. -/
def Pool.refCount (m : Pool) (b : Nat) : Nat := m.refs.getD b 0

/-- The bytes of the frame in buffer `b`. -/
def Pool.frame (m : Pool) (b : Nat) : List Byte := m.ram.readBytes (bufferAddress b 0) (m.lens.getD b 0)

/-- The first `n` bytes of buffer `b`. -/
def Pool.bytes (m : Pool) (b n : Nat) : List Byte := m.ram.readBytes (bufferAddress b 0) n

/-- Reserve the buffer at the head of the free list: its count becomes 1 and the watermark falls with the free count (R24,
R37, R40). None when the list is empty. -/
def Pool.reserve (m : Pool) : Option (Nat × Pool) :=
  match m.free with
  | [] => none
  | b :: rest =>
    some (b, { m with free := rest, refs := m.refs.set b 1, watermark := min m.watermark rest.length })

/-- Drop one reference on buffer `b`: at count 1 the buffer is released to the tail of the free list (R37). -/
def Pool.drop (m : Pool) (b : Nat) : Pool :=
  match m.refCount b with
  | 0 => m
  | 1 => { m with refs := m.refs.set b 0, free := m.free ++ [b] }
  | n + 2 => { m with refs := m.refs.set b (n + 1) }

/-- One more holder of a buffer that is in use (R38). -/
def Pool.addRef (m : Pool) (b : Nat) : Pool :=
  match m.refCount b with
  | 0 => m
  | n + 1 => { m with refs := m.refs.set b (n + 2) }

/-- Store a byte of the frame in buffer `b` (R26). -/
def Pool.store (m : Pool) (b offset : Nat) (v : Byte) : Pool := { m with ram := m.ram.write (bufferAddress b offset) v }

/-- Note the length of the frame in buffer `b` (R28, log 28). -/
def Pool.setLength (m : Pool) (b n : Nat) : Pool := { m with lens := m.lens.set b n }

/-- Write a whole frame into buffer `b` (R114). -/
def Pool.writeFrame (m : Pool) (b : Nat) (bytes : List Byte) : Pool :=
  { m with ram := m.ram.writeBytes (bufferAddress b 0) bytes, lens := m.lens.set b bytes.length }

/-- A holder drops its reference on buffer `b`. -/
def State.dropRef (s : State) (b : Nat) : State := s.withPool (s.pool.drop b)

/-- A holder drops its reference, if it has one. -/
def State.dropRef? (s : State) (b : Option Nat) : State :=
  match b with
  | none => s
  | some b => s.dropRef b

/-- Holders drop their references in order. -/
def State.dropRefs (s : State) (bs : List Nat) : State :=
  match bs with
  | [] => s
  | b :: rest => (s.dropRef b).dropRefs rest

/-! ### Alert causes and alerts (7.3) -/

/-- A cause is raised: masked in, it joins the pending cause set; masked out, it is discarded (R160). -/
def State.raiseCause (s : State) (k : Cause) : State :=
  if s.agent.settings.mask.has k then
    s.withAlert { s.alert with pendingCauses := s.alert.pendingCauses.add k }
  else s

/-- The alert frame (R162, 9.4): address in force, ALERT code, sequence, causes, timestamp, pool free count, check. -/
def alertFrame (address : Byte) (sequence : BitVec 8) (causes : CauseSet) (stamp : Stamp) (free : Nat) : List Byte :=
  withCheck ([address, Config.alertCode, sequence, causes.code] ++ be32 stamp.toNat ++ [byteOf free])

/-- The test of R161 for forming a new alert. -/
def State.alertMayForm (s : State) : Bool :=
  decide (s.alert.state = .quiet) && !s.alert.pendingCauses.isEmpty && s.alertLane.isNone

/-- The alert that R161 forms from the present state. -/
def State.nextAlert (s : State) : Alert :=
  { sequence := s.alert.sequence + 1
    causes := s.alert.pendingCauses
    stamp := s.timeBase
    freeCount := s.pool.free.length
    frame := alertFrame s.agent.settings.address (s.alert.sequence + 1) s.alert.pendingCauses s.timeBase s.pool.free.length }

/-- The formation test of R161: when it holds, the next alert is formed and placed in the trunk's alert lane. -/
def State.formAlert (s : State) : State :=
  if s.alertMayForm then
    (s.withAlert
      { state := .outstanding
        sequence := s.nextAlert.sequence
        pendingCauses := CauseSet.empty
        current := some s.nextAlert
        repeatCount := 0
        repeatDue := none }).withAlertLane (some s.nextAlert.frame)
  else s

/-- Place the current alert's frame in the alert lane again (R164, R165). -/
def State.placeCurrentAlert (s : State) : State :=
  match s.alert.current with
  | none => s
  | some a => s.withAlertLane (some a.frame)

/-- A management frame completed on port 0: a STALLED alert is placed again (R119, R165). -/
def State.reportTrunkManagement (s : State) : State :=
  if s.alert.state = .stalled then
    (s.withAlert { s.alert with state := .outstanding, repeatCount := 0 }).placeCurrentAlert
  else s

/-! ### Snapshots (7.2) -/

/-- An offer to the port's snapshot: recorded and SNAPSHOT raised when EMPTY (R156), only missed when HELD (R157). -/
def State.offerSnapshot (s : State) (p : Port) (kind : SnapshotKind) (stamp : Stamp) (length : Nat) (bytes : List Byte) : State :=
  match (s.port p).snapshot with
  | none => (s.withSnapshot p (some ⟨kind, stamp, length, bytes, 0#8⟩)).raiseCause .snapshot
  | some r => s.withSnapshot p (some { r with missed := if r.missed = 255#8 then r.missed else r.missed + 1#8 })

/-! ### Transmit queues (R72, R73) -/

/-- A queue's answer to an offer (R73). -/
inductive OfferAnswer where
  | accepted | off | full
deriving DecidableEq, Repr

/-- The number of descriptors on a queue, both parts together (R72). -/
def TxQueue.depth (q : TxQueue) : Nat := q.urgent.length + q.normal.length

/-- The port's transmitter is OFF. -/
def PortState.isOff (x : PortState) : Bool := !x.enabled || decide (x.tx.state = .off)

/-- The queue's answer to an offer: OFF when the port is not enabled, or its transmitter still OFF before the start-up load
has completed (R86); FULL at 20 descriptors; else ACCEPTED (R73). -/
def State.offerAnswer (s : State) (p : Port) : OfferAnswer :=
  if (s.port p).isOff then .off
  else if Config.queueLimit ≤ (s.port p).queue.depth then .full
  else .accepted

/-- A descriptor joins the tail of the part its priority names (R72). -/
def TxQueue.push (q : TxQueue) (d : Descriptor) : TxQueue :=
  match d.priority with
  | .urgent => { q with urgent := q.urgent ++ [d] }
  | .normal => { q with normal := q.normal ++ [d] }

/-- An accepted descriptor joins port `p`'s queue with the time base value of the event (R73). -/
def State.enqueue (s : State) (p : Port) (buffer : Nat) (kind : DescriptorKind) (pr : Priority) : State :=
  s.withQueue p ((s.port p).queue.push ⟨buffer, kind, pr, s.timeBase⟩)

/-! ### Notices (5.9) -/

/-- The notice frame (R113, 9.4). -/
def noticeFrame (address : Byte) (n : NoticeRequest) : List Byte :=
  withCheck ([address, Config.noticeCode, byteOf n.segment.num, n.station, n.reason.code, byteOf n.attempts]
    ++ be16 n.number.toNat ++ [byteOf n.rule])

/-- Build and queue a notice (R114): reserve a buffer, write the notice into it, offer an URGENT NOTICE descriptor to the
origin's queue; a refusal at either point loses it as NOTICELOST on the origin. -/
def State.buildNotice (s : State) (n : NoticeRequest) : State :=
  match s.pool.reserve with
  | none => s.count n.origin .noticelost
  | some (b, m) =>
    let s1 := s.withPool (m.writeFrame b (noticeFrame s.agent.settings.address n))
    match s1.offerAnswer n.origin with
    | .accepted => s1.enqueue n.origin b .notice .urgent
    | .off => (s1.dropRef b).count n.origin .noticelost
    | .full => (s1.dropRef b).count n.origin .noticelost

/-- Build a notice if the notice flag asks for one. -/
def State.noticeIf (s : State) (flag : Bool) (n : NoticeRequest) : State := if flag then s.buildNotice n else s

end Sys2Proof.Machine
end

