-- ==== Sys2Proof/Machine/Exchange.lean ====
section
/-! DEFINITION. The exchange slot's operations (chapter 5): opening an exchange, failed attempts, the answer, late answers and
cancellation. -/

namespace Sys2Proof.Machine

/-- The settings in force on a segment. -/
def State.segSettings (s : State) (sg : Seg) : Settings := (s.port (.seg sg)).settings

/-- The exchange number after `n`; the number after 65535 is 1 (R90). -/
def nextExchangeNumber (n : BitVec 16) : BitVec 16 := if n = 0xFFFF#16 then 1#16 else n + 1#16

/-- The record of an exchange that opens now from a taken EXCHANGE descriptor (R92). -/
def State.openedRecord (s : State) (sg : Seg) (d : Descriptor) (x : ExchangeParams) : ExchangeRecord where
  number := nextExchangeNumber (s.seg sg).lastNumber
  origin := x.origin
  station := s.pool.ram.read (bufferAddress d.buffer 0)
  buffer := some d.buffer
  rule := x.rule
  priority := d.priority
  retries := x.retries
  notice := x.notice
  attempt := 1
  startedAt := s.timeBase
  remaining := none
  lastResult := .none
  retryPending := false

/-- The slot opens an exchange and enters SENDING; EXCHANGES is counted (R90, R92). -/
def State.openExchange (s : State) (sg : Seg) (d : Descriptor) (x : ExchangeParams) : State :=
  (s.withSeg sg
    { s.seg sg with
      slot := .sendingExchange (s.openedRecord sg d x)
      lastNumber := nextExchangeNumber (s.seg sg).lastNumber }).countExchange sg .exchanges

/-- What a notice about this exchange is built from (R113). -/
def ExchangeRecord.noticeRequest (r : ExchangeRecord) (sg : Seg) (reason : NoticeReason) : NoticeRequest :=
  ⟨r.origin, sg, r.station, reason, r.attempt, r.number, r.rule⟩

/-- The notice reason of a failed exchange, from its last attempt result (R103). -/
def AttemptResult.reason (a : AttemptResult) : NoticeReason :=
  match a with
  | .badReply => .badReply
  | .none | .timeout => .timeout

/-- The attempt failed and a retry is allowed: RETRIES is counted, the slot enters LAPSED with the retry pending and the
lapse timer loaded (R102). -/
def State.scheduleRetry (s : State) (sg : Seg) (r : ExchangeRecord) : State :=
  (s.countExchange sg .retries).withSlot sg
    (.lapsed { r with retryPending := true } (s.timerDue (s.segSettings sg).lapseMillis))

/-- The last allowed attempt failed: outcome FAILED, in the order of R103. -/
def State.exchangeFailed (s : State) (sg : Seg) (r : ExchangeRecord) : State :=
  ((((s.countExchange sg .failed).dropRef? r.buffer).noticeIf r.notice (r.noticeRequest sg r.lastResult.reason)).raiseCause
      .exchange).withSlot sg
    (.lapsed { r with buffer := none, retryPending := false } (s.timerDue (s.segSettings sg).lapseMillis))

/-- A failed attempt is retried while the attempt number is below one plus the retries (R102), else the exchange fails
(R103). -/
def State.failAttempt (s : State) (sg : Seg) (r : ExchangeRecord) : State :=
  if r.attempt < 1 + r.retries then s.scheduleRetry sg r else s.exchangeFailed sg r

/-- The attempt failed with TIMEOUT (R96). -/
def State.attemptTimedOut (s : State) (sg : Seg) (r : ExchangeRecord) : State :=
  (s.countExchange sg .timeouts).failAttempt sg { r with remaining := some 0, lastResult := .timeout }

/-- The attempt failed with BADREPLY; a bad answer's buffer has been released before (R100, log 19). -/
def State.attemptBadReply (s : State) (sg : Seg) (r : ExchangeRecord) : State :=
  (s.countExchange sg .badreplies).failAttempt sg { r with lastResult := .badReply }

/-- The answer in buffer `b` is offered to the origin's queue as a REPLY; a refusal is ORPHAN or QFULL and releases it (R98,
R99). -/
def State.offerAnswerFrame (s : State) (sg : Seg) (r : ExchangeRecord) (b : Nat) : State :=
  match s.offerAnswer r.origin with
  | .accepted => s.enqueue r.origin b .reply r.priority
  | .off => (s.count (.seg sg) .orphan).dropRef b
  | .full => (s.count r.origin .qfull).dropRef b

/-- Outcome REPLIED, in the order of R98. -/
def State.exchangeReplied (s : State) (sg : Seg) (r : ExchangeRecord) (b : Nat) : State :=
  (((s.countExchange sg .replied).offerAnswerFrame sg r b).dropRef? r.buffer).withSlot sg .free

/-- An arrival reported to the slot: in AWAITING the response timer stops and the slot enters RECEIVING (R95). -/
def State.reportArrival (s : State) (p : Port) : State :=
  match p with
  | .trunk => s
  | .seg sg =>
    match (s.seg sg).slot with
    | .awaiting r due => s.withSlot sg (.receiving { r with remaining := some (s.millisLeft due) })
    | _ => s

/-- A discard end reported to the slot: in RECEIVING the attempt fails with BADREPLY (R35, R100). -/
def State.reportDiscardEnd (s : State) (p : Port) : State :=
  match p with
  | .trunk => s
  | .seg sg =>
    match (s.seg sg).slot with
    | .receiving r => s.attemptBadReply sg r
    | _ => s

/-- The record of the exchange that is open in a slot (R88): a record left in LAPSED after FAILED has ended. -/
def Slot.openRecord (sl : Slot) : Option ExchangeRecord :=
  match sl with
  | .sendingExchange r | .awaiting r _ | .receiving r | .resend r => some r
  | .lapsed r _ => if r.retryPending then some r else none
  | .outOfUse | .free | .sendingNoAnswer | .settling _ => none

/-- The buffer of the slot's own request reference (R88): none during the sending of the first attempt. -/
def Slot.requestReference (sl : Slot) : Option Nat :=
  match sl with
  | .sendingExchange r => if r.attempt ≤ 1 then none else r.buffer
  | .awaiting r _ | .receiving r | .lapsed r _ | .resend r => r.buffer
  | .outOfUse | .free | .sendingNoAnswer | .settling _ => none

/-- DISABLE PORT takes the slot of a FIELD segment to FREE; an open exchange ends CANCELLED in the order of R109. -/
def State.cancelExchange (s : State) (sg : Seg) : State :=
  match (s.seg sg).slot with
  | .outOfUse => s
  | sl =>
    match sl.openRecord with
    | none => s.withSlot sg .free
    | some r =>
      (((s.countExchange sg .cancelled).dropRef? sl.requestReference).noticeIf r.notice
        (r.noticeRequest sg .cancelled)).withSlot sg .free

end Sys2Proof.Machine
end

