-- ==== Sys2Proof/Machine/Classify.lean ====
section
/-! DEFINITION. The classifier (3.2) and the dispatcher (4.1). -/

namespace Sys2Proof.Machine

/-- A byte test holds for a frame (R45). -/
def ByteTest.holds (t : ByteTest) (frame : List Byte) : Bool :=
  match frame[t.offset]? with
  | none => false
  | some b => b &&& t.mask == t.value &&& t.mask

/-- A clean frame from port `src` matches the entry (R46). -/
def Rule.matchesFrame (r : Rule) (src : Port) (frame : List Byte) : Bool :=
  r.sources.get src && decide (r.minLength ≤ frame.length) && decide (frame.length ≤ r.maxLength)
    && r.tests.all (·.holds frame)

/-- The first valid entry, in index order, that the frame matches (R47); `i` is the index of the list's head. -/
def firstMatch (table : List (Option Entry)) (src : Port) (frame : List Byte) (i : Nat) : Option (Nat × Entry) :=
  match table with
  | [] => none
  | none :: rest => firstMatch rest src frame (i + 1)
  | some e :: rest => if e.rule.matchesFrame src frame then some (i, e) else firstMatch rest src frame (i + 1)

/-- One FORWARD target: the offer of a PLAIN descriptor and its count (R66). -/
def State.forwardTo (s : State) (src : Port) (b : Nat) (pr : Priority) (target : Port) : State :=
  match s.offerAnswer target with
  | .accepted => (s.withPool (s.pool.addRef b)).enqueue target b .plain pr
  | .off => s.count src .misroute
  | .full => s.count target .qfull

/-- The effective target set, in ascending order: the targets without the source port (R66). -/
def effectiveTargets (targets : PortSet) (src : Port) : List Port :=
  Port.list.filter fun p => targets.get p && decide (p ≠ src)

/-- FORWARD (R66, R67): each effective target is offered a descriptor; when all have been visited the assembly reference
goes, so that the count is the number of descriptors enqueued. -/
def State.dispatchForward (s : State) (src : Port) (b : Nat) (targets : PortSet) (pr : Priority) : State :=
  ((effectiveTargets targets src).foldl (fun s p => s.forwardTo src b pr p) s).dropRef b

/-- The route check of an EXCHANGE (R68). -/
def State.routePasses (s : State) (src : Port) (target : Seg) : Bool :=
  decide ((s.port src).settings.role = .uplink) && (s.port (.seg target)).enabled
    && decide ((s.port (.seg target)).settings.role = .field) && decide (src ≠ .seg target)

/-- EXCHANGE (R68 to R70): the route check, then the offer to the target's queue. A refusal releases the buffer and then
requests the notice, if the flag asks for one, with no attempt and no exchange number. -/
def State.dispatchExchange (s : State) (src : Port) (b rule : Nat) (target : Seg) (pr : Priority) (retries : Nat)
    (notice : Bool) : State :=
  let station := s.pool.ram.read (bufferAddress b 0)
  let request (reason : NoticeReason) : NoticeRequest := ⟨src, target, station, reason, 0, 0#16, rule⟩
  if s.routePasses src target then
    match s.offerAnswer (.seg target) with
    | .accepted => s.enqueue (.seg target) b (.exchange ⟨src, retries, notice, rule⟩) pr
    | .off | .full => (((s.count (.seg target) .qfull).dropRef b).noticeIf notice (request .queueFull))
  else ((s.count src .misroute).dropRef b).noticeIf notice (request .noRoute)

/-- The dispatcher (R64, R65). -/
def State.dispatch (s : State) (src : Port) (b rule : Nat) (a : Action) : State :=
  match a with
  | .drop => s.dropRef b
  | .forward targets pr => s.dispatchForward src b targets pr
  | .exchange target pr retries notice => s.dispatchExchange src b rule target pr retries notice

/-- The classifier (R47 to R49): the clean frame in buffer `b` from port `src`. -/
def State.classify (s : State) (src : Port) (b : Nat) : State :=
  match firstMatch s.rules src (s.pool.frame b) 0 with
  | none => (s.count src .unmatched).dropRef b
  | some (i, e) => (s.withRules (s.rules.set i (some { e with hits := e.hits.bump }))).dispatch src b i e.rule.action

end Sys2Proof.Machine
end

