-- ==== Sys2Proof/Machine/Transmit.lean ====
section
/-! DEFINITION. The arbiter (4.5), the start of a transmission (R13 to R17, R81), pending settings at an idle point (R5, R6),
the abort of a transmission (R83) and the flush of a queue (R84), and the output pins. -/

namespace Sys2Proof.Machine

/-- The record whose retry waits on port `p`: a FIELD segment's slot in RESEND. -/
def State.retryWaiting (s : State) (p : Port) : Option ExchangeRecord :=
  match p with
  | .trunk => none
  | .seg sg =>
    match (s.segSettings sg).role, (s.seg sg).slot with
    | .field, .resend r => some r
    | _, _ => none

/-- The port's reply lane holds a reply (on an UPLINK port). -/
def State.replyWaiting (s : State) (p : Port) : Bool :=
  decide ((s.port p).settings.role = .uplink) && (s.port p).lane.isSome

/-- The trunk's alert lane holds an alert. -/
def State.alertWaiting (s : State) (p : Port) : Bool := decide (p = .trunk) && s.alertLane.isSome

/-- The port has work (R13). -/
def State.hasWork (s : State) (p : Port) : Bool :=
  (s.retryWaiting p).isSome || s.replyWaiting p || s.alertWaiting p || decide (0 < (s.port p).queue.depth)

/-- The turnaround guard has run out (R12, R15): its expiry has been taken, or its time is over (log 18). -/
def State.guardOver (s : State) (p : Port) : Bool :=
  match (s.port p).guardFrom with
  | none => true
  | some t => decide (t + Config.finePerMicro * (s.port p).settings.guardMicros ≤ s.now)

/-- A slot state in which a FIELD segment's transmission may start (R15). -/
def Slot.mayStart (sl : Slot) : Bool :=
  match sl with
  | .free | .resend _ => true
  | .outOfUse | .sendingExchange _ | .sendingNoAnswer | .awaiting _ _ | .receiving _ | .lapsed _ _ | .settling _ => false

/-- The start condition of a port that has work and is not SENDING (R14, R15). -/
def State.startCondition (s : State) (p : Port) : Bool :=
  match p with
  | .trunk => true
  | .seg sg =>
    decide ((s.port p).rx.state = .idle) && s.guardOver p
      && (decide ((s.port p).settings.role = .uplink) || (s.seg sg).slot.mayStart)

/-- What the arbiter chooses (R78); for a queued descriptor, with the queue as the take leaves it. -/
inductive Choice where
  | retry (r : ExchangeRecord)
  | reply
  | alert
  | take (d : Descriptor) (rest : TxQueue)
deriving DecidableEq, Repr

/-- The grant to the queue (R78 orders 4 and 5, R79): the URGENT head, unless four URGENT grants in a row have passed a
waiting NORMAL part over. -/
def TxQueue.grant (q : TxQueue) : Option Choice :=
  match q.urgent, q.normal with
  | [], [] => none
  | [], n :: ns => some (.take n ⟨[], ns, 0⟩)
  | u :: us, [] => some (.take u ⟨us, [], 0⟩)
  | u :: us, n :: ns =>
    if Config.agingLimit ≤ q.aging then some (.take n ⟨u :: us, ns, 0⟩) else some (.take u ⟨us, n :: ns, q.aging + 1⟩)

/-- The arbiter's choice for port `p` (R78). -/
def State.choice (s : State) (p : Port) : Option Choice :=
  match s.retryWaiting p with
  | some r => some (.retry r)
  | none =>
    if s.replyWaiting p then some .reply
    else if s.alertWaiting p then some .alert
    else (s.port p).queue.grant

/-- The receiver of a port that begins to send: a segment's is MUTED (R12), the trunk's goes on (R14). -/
def mutedReceiver (p : Port) (rx : Receiver) : Receiver :=
  match p with
  | .trunk => rx
  | .seg _ => Receiver.fresh .muted

/-- The transmitter enters SENDING with a current frame (R81); the guard has run out (R15). -/
def State.startSending (s : State) (p : Port) (cur : Current) : State :=
  s.withPort p
    { s.port p with
      tx := ⟨.sending cur s.now, none⟩
      rx := mutedReceiver p (s.port p).rx
      guardFrom := none }

/-- On a FIELD segment the slot is told what a taken descriptor starts (R81, R92, R93). -/
def State.reportTake (s : State) (p : Port) (d : Descriptor) : State :=
  match p with
  | .trunk => s
  | .seg sg =>
    match (s.segSettings sg).role with
    | .uplink => s
    | .field =>
      match d.kind with
      | .exchange x => s.openExchange sg d x
      | .plain | .reply | .notice => s.withSlot sg .sendingNoAnswer

/-- The retry is reported as the next attempt: the attempt number rises, retry pending becomes no, and the transmitter takes
a reference of its own beside the slot's (R81, R106). -/
def State.startRetry (s : State) (p : Port) (r : ExchangeRecord) : State :=
  match p, r.buffer with
  | .seg sg, some b =>
    ((s.withPool (s.pool.addRef b)).withSlot sg
      (.sendingExchange { r with attempt := r.attempt + 1, retryPending := false })).startSending p (.retry b)
  | _, _ => s

/-- The chosen frame goes out (R74, R81). -/
def State.begin (s : State) (p : Port) (c : Choice) : State :=
  match c with
  | .retry r => s.startRetry p r
  | .reply => s.startSending p .reply
  | .alert => s.startSending p .alert
  | .take d rest => ((s.withQueue p rest).startSending p (.descriptor d)).reportTake p d

/-- An IDLE or WAITING transmitter with work starts if its start condition holds and otherwise waits (R13). -/
def State.startPort (s : State) (p : Port) : State :=
  match (s.port p).tx.state with
  | .off | .sending _ _ => s
  | .idle | .waiting =>
    match s.choice p with
    | none => s
    | some c =>
      if s.startCondition p then s.begin p c
      else s.withTx p { (s.port p).tx with state := .waiting }

/-- The port is at an idle point for a pending record (R5): enabled, receiver and transmitter IDLE with no work, a FIELD slot
FREE, and for a role change an empty queue. -/
def State.atIdlePoint (s : State) (p : Port) (st : Settings) : Bool :=
  (s.port p).enabled && decide ((s.port p).rx.state = .idle) && decide ((s.port p).tx.state = .idle) && !s.hasWork p
    && (match p with
        | .trunk => true
        | .seg sg => decide ((s.port p).settings.role = .uplink) || decide ((s.seg sg).slot = .free))
    && (decide (st.role = (s.port p).settings.role) || decide ((s.port p).queue.depth = 0))

/-- A segment's slot comes into use FREE, or goes out of use, as its role decides (R6, R87). -/
def State.slotForRole (s : State) (p : Port) (r : Role) : State :=
  match p with
  | .trunk => s
  | .seg sg => s.withSlot sg (Slot.forRole r)

/-- A pending record becomes active and is removed; Enabled stays as it was (R5, R6). -/
def State.activateSettings (s : State) (p : Port) (st : Settings) : State :=
  (s.withPort p { s.port p with settings := st, pendingSettings := none }).slotForRole p st.role

/-- A port's pending record becomes active if the port is at an idle point (R5). -/
def State.applyPending (s : State) (p : Port) : State :=
  match (s.port p).pendingSettings with
  | none => s
  | some st => if s.atIdlePoint p st then s.activateSettings p st else s

/-- What follows within an event once its own effects are made (log 21): each transmitter that may start does (R13), then
each pending record whose port is at an idle point becomes active (R5). -/
def State.followUp (s : State) : State :=
  Port.list.foldl State.applyPending (Port.list.foldl State.startPort s)

/-- The end of an event that may raise causes: the formation test (R160, R161), then what follows. -/
def State.finish (s : State) : State := s.formAlert.followUp

/-! ### Aborts and flushes -/

/-- The bytes of a current frame (R81). -/
def State.currentBytes (s : State) (p : Port) (cur : Current) : List Byte :=
  match cur with
  | .descriptor d => s.pool.frame d.buffer
  | .retry b => s.pool.frame b
  | .reply => ((s.port p).lane.map (·.frame)).getD []
  | .alert => s.alertLane.getD []

/-- The character in progress of a frame whose sending began at instant `since` (R19, R83). At an instant that is the boundary
between two characters it is the one whose start bit begins there, which is then sent whole; at the end of the last there is
none: the model's choice, which the spec leaves open (log 25). -/
def State.characterInProgress (s : State) (p : Port) (cur : Current) (since : Nat) : Option Drain :=
  let ch := (s.port p).settings.characterFine
  let k := (s.now - since) / ch
  ((s.currentBytes p cur)[k]?).map fun b => ⟨b, since + k * ch⟩

/-- The buffer that a current frame holds a reference on (R81). -/
def Current.buffer (cur : Current) : Option Nat :=
  match cur with
  | .descriptor d => some d.buffer
  | .retry b => some b
  | .reply | .alert => none

/-- The transmitter goes OFF; a frame being sent is cut after the character in progress, counted ABORTED, and its reference
dropped (R19, R83). -/
def State.abortSending (s : State) (p : Port) : State :=
  match (s.port p).tx.state with
  | .sending cur since =>
    ((s.withTx p ⟨.off, s.characterInProgress p cur since⟩).count p .aborted).dropRef? cur.buffer
  | .off | .idle | .waiting => s.withTx p { (s.port p).tx with state := .off }

/-- Flush the queue and the reply lane: URGENT from head to tail, then NORMAL; the aging counter becomes 0 (R84). -/
def State.flushQueue (s : State) (p : Port) : State :=
  ((s.dropRefs (((s.port p).queue.urgent ++ (s.port p).queue.normal).map (·.buffer))).withQueue p TxQueue.empty).withLane p none

/-! ### Output pins (R7, R17, 10.1) -/

/-- A segment's driver-enable output: asserted for the whole of a frame, and to the end of the character that an aborted
frame is finishing (R17). -/
def State.driverEnable (s : State) (sg : Seg) : Bool :=
  match (s.port (.seg sg)).tx.state with
  | .sending _ _ => true
  | .off | .idle | .waiting =>
    match (s.port (.seg sg)).tx.drain with
    | none => false
    | some d => decide (s.now < d.start + (s.segSettings sg).characterFine)

/-- The level of a port's data output (R7): the bits of the characters of the current frame back to back; high between
frames. -/
def State.txdLevel (s : State) (p : Port) : Bool :=
  let st := (s.port p).settings
  match (s.port p).tx.state with
  | .sending cur since =>
    ((s.currentBytes p cur).flatMap st.characterLevels).getD ((s.now - since) / st.bitFine) true
  | .off | .idle | .waiting =>
    match (s.port p).tx.drain with
    | none => true
    | some d => (st.characterLevels d.byte).getD ((s.now - d.start) / st.bitFine) true

end Sys2Proof.Machine
end

