-- ==== Sys2Proof/Machine/ProfileStore.lean ====
section
/-! DEFINITION. The banks (8.1), the integrity check (R191), the commit's programming and verification (R175 to R178), the
assessment of a start-up load and the applying of a profile (R184, R185). -/

namespace Sys2Proof.Machine

/-- One of the two banks. -/
def Store.bank (st : Store) (id : BankId) : Bank :=
  match id with
  | .a => st.bankA
  | .b => st.bankB

/-- Replace one of the two banks. -/
def Store.withBank (st : Store) (id : BankId) (x : Bank) : Store :=
  match id with
  | .a => { st with bankA := x }
  | .b => { st with bankB := x }

/-- The other bank. -/
def BankId.other (id : BankId) : BankId :=
  match id with
  | .a => .b
  | .b => .a

/-- The integrity check over the 3160 bytes of generation and image (R191). -/
def integrityOf (bytes : List Byte) : BitVec 32 :=
  BitVec.ofNat 32 (Config.integrityBase + (bytes.map (·.toNat)).sum)

/-- A bank's generation bytes, read from its body at offsets 4 to 7 (9.6). -/
def Bank.storedGeneration (b : Bank) : BitVec 32 := BitVec.ofNat 32 (numberOf (b.body.readBytes 4 4))

/-- The generation that READ STORE reports: 0 for a bank that is not valid (R172). -/
def Bank.generation (b : Bank) : BitVec 32 := if b.valid then b.storedGeneration else 0#32

/-- The 3156 image bytes of a bank (9.6). -/
def Bank.imageBytes (b : Bank) : List Byte := b.body.readBytes 8 3156

/-- The profile that a bank's image holds, none when a field fails its check (R172). -/
def Bank.storedProfile? (b : Bank) : Option Profile := profile? b.imageBytes

/-- The bank's contents are those of a valid bank: the stored check equals the computed one and every field passes (R172). -/
def Bank.contentsValid (b : Bank) : Bool :=
  decide (numberOf (b.body.readBytes 3164 4) = (integrityOf (b.body.readBytes 4 3160)).toNat) && b.storedProfile?.isSome

/-- The assessment of a start-up load (R172, R184). -/
def Bank.assess (b : Bank) : Bank := { b with valid := b.contentsValid }

/-- Bank A is the newest of two valid banks: the difference of the generations modulo 2^32 is at most 2^31 (R173). -/
def aIsNewest (genA genB : BitVec 32) : Bool := decide ((genA - genB).toNat ≤ 2147483648)

/-- The newest bank, by the kept validity (R173). -/
def Store.newest (st : Store) : Option BankId :=
  match st.bankA.valid, st.bankB.valid with
  | false, false => none
  | true, false => some .a
  | false, true => some .b
  | true, true => if aIsNewest st.bankA.storedGeneration st.bankB.storedGeneration then some .a else some .b

/-- The target of a commit: the bank that is not the newest, bank A when none is valid (R175). -/
def Store.target (st : Store) : BankId :=
  match st.newest with
  | none => .a
  | some id => id.other

/-- The generation after `g`: after 4,294,967,295 comes 1 (R173). -/
def nextGeneration (g : BitVec 32) : BitVec 32 := if g = 0xFFFFFFFF#32 then 1#32 else g + 1#32

/-- The generation a commit writes: one more than the newest bank's, or 1 when no bank is valid (R173, R175). -/
def Store.generationToWrite (st : Store) : BitVec 32 :=
  match st.newest with
  | none => 1#32
  | some id => nextGeneration (st.bank id).storedGeneration

/-- A port's captured record: its pending record if present, otherwise its active one, with Enabled as it stands (R144). -/
def PortState.captured (x : PortState) : PortRecord := ⟨x.enabled, x.pendingSettings.getD x.settings⟩

/-- The agent settings a commit captures: the pending agent address, when present, in place of the address in force (R144). -/
def Agent.captured (a : Agent) : AgentSettings :=
  { a.settings with address := (a.pendingAddress.map (·.address)).getD a.settings.address }

/-- The image captured at the acceptance of a COMMIT: table without hit counts, port records, agent settings (R59, R144). -/
def State.capturedProfile (s : State) : Profile where
  agent := s.agent.captured
  ports := s.ports.map PortState.captured
  rules := s.rules.map fun e => e.map (·.rule)

/-- The store takes up an accepted COMMIT (R175): the target's erase count rises, the target is not valid, its body is
erased (log 11), and the store enters COMMITTING. -/
def State.beginCommit (s : State) : State :=
  let target := s.store.target
  let old := s.store.bank target
  s.withStore
    { s.store.withBank target { eraseCount := old.eraseCount.bump, body := [], valid := false } with
      state := .committing ⟨target, s.store.generationToWrite, s.capturedProfile⟩ }

/-- The bytes at bank offsets from `base` on as the memory keeps them, given the cells that hold another byte (log 10). -/
def asKept (base : Nat) (bytes : List Byte) (wrong : List (Nat × Byte)) : List Byte :=
  wrong.foldl (fun bs c => if base ≤ c.1 then bs.set (c.1 - base) c.2 else bs) bytes

/-- The 3160 bytes a commit programs at offsets 4 to 3163: generation and image (R176). -/
def CommitJob.bytes (j : CommitJob) : List Byte := be32 j.generation.toNat ++ j.image.encode

/-- The generation and the image read back as captured, and the integrity check as programmed (R177). -/
def CommitJob.readsBack (j : CommitJob) (wrong : List (Nat × Byte)) : Bool :=
  decide (asKept 4 j.bytes wrong = j.bytes)
    && decide (asKept 3164 (be32 (integrityOf j.bytes).toNat) wrong = be32 (integrityOf j.bytes).toNat)

/-- The target's body at the completion (R176, R178): generation and image as kept, and the check as kept, or still cleared
when the generation or the image differs. -/
def CommitJob.bodyAfter (j : CommitJob) (wrong : List (Nat × Byte)) : Memory :=
  let kept := asKept 4 j.bytes wrong
  let check :=
    if kept = j.bytes then asKept 3164 (be32 (integrityOf j.bytes).toNat) wrong else absent 4
  Memory.ofBytes 4 (kept ++ check)

/-- The store's part of a commit's completion (R177, R178): the target's body and validity, and IDLE. -/
def State.endCommit (s : State) (j : CommitJob) (wrong : List (Nat × Byte)) : State :=
  let old := s.store.bank j.target
  s.withStore
    { s.store.withBank j.target { old with body := j.bodyAfter wrong, valid := j.readsBack wrong } with state := .idle }

/-- The start-up load begins (R184): both banks are assessed and the newest, if any, is chosen. -/
def State.beginStartup (s : State) : State :=
  let a := s.store.bankA.assess
  let b := s.store.bankB.assess
  s.withStore ⟨a, b, .startup (Store.newest ⟨a, b, .idle⟩)⟩

/-- The profile that a start-up load or a LOAD reads from its source; the factory profile where there is none (R184). A valid
bank always holds a readable image (R172). -/
def Store.profileOf (st : Store) (source : Option BankId) : Profile :=
  match source with
  | none => factoryProfile
  | some id => (st.bank id).storedProfile?.getD factoryProfile

/-- A table filled from a profile, every hit count 0 (R60 to R62). -/
def freshTable (rules : List (Option Rule)) : List (Option Entry) := rules.map fun r => r.map fun r => ⟨r, 0#32⟩

/-- A port comes up at the start-up load's completion: the profile's record, no pending record, receiver and transmitter IDLE
or OFF, the guard run out, and the segment's slot FREE or out of use (R20, R117, R185). -/
def State.bringUp (s : State) (p : Port) (r : PortRecord) : State :=
  (s.withPort p
    { s.port p with
      enabled := r.enabled
      settings := r.settings
      pendingSettings := none
      rx := Receiver.fresh (if r.enabled then .idle else .off)
      tx := Transmitter.fresh (if r.enabled then .idle else .off)
      guardFrom := none }).slotForRole p r.settings.role

/-- The chosen profile is applied, in the order of R185: table, agent settings, RESTARTED and the first alert, ports, store
IDLE. -/
def State.applyStartup (s : State) (pr : Profile) : State :=
  let s1 := s.withRules (freshTable pr.rules)
  let s2 := s1.withAgent { s1.agent with settings := pr.agent, pendingAddress := none }
  let s3 := (s2.raiseCause .restarted).formAlert
  let s4 := Port.list.foldl (fun s p => s.bringUp p (pr.ports.get p)) s3
  s4.withStore { s4.store with state := .idle }

end Sys2Proof.Machine
end

