-- ==== Sys2Proof/Machine/ResetOps.lean ====
section
/-! DEFINITION. What each kind of reset does to every block (R20, R21, R41, R42, R85, R86, R117, R118, R148, R153, R169, R170,
R180, R183, R187). -/

namespace Sys2Proof.Machine

/-- The state that every cold-kind reset leaves (POWER, SUPPLY, PIN, COLD): everything but the banks, the bytes in the
buffers, the supply and the clock is set afresh, and a store operation in progress is abandoned. -/
def State.coldWipe (s : State) (cause : ResetCause) : State :=
  { s with
    timeBase := 0#32
    subMicro := 0
    resetCause := cause
    pool := s.pool.afresh Config.poolBuffers
    ports := stoppedPorts
    segs := PerSeg.all SegState.wiped
    alertLane := none
    rules := emptyTable
    agent := Agent.wiped
    alert := AlertUnit.wiped
    store := { s.store with state := .idle } }

/-- A port at a WARM reset: a frame being sent is cut and counted ABORTED; receiver and transmitter go OFF, the frame in
assembly and a held character are dropped, the queue and the lane are emptied, the pending record removed (R21, R85). -/
def State.warmPort (s : State) (p : Port) : State :=
  let s1 := s.abortSending p
  s1.withPort p
    { s1.port p with
      pendingSettings := none
      rx := Receiver.fresh .off
      queue := TxQueue.empty
      lane := none
      guardFrom := none }

/-- A slot at a WARM reset: an open exchange ends CANCELLED without a notice, and the slot goes FREE (R118). -/
def State.warmSlot (s : State) (sg : Seg) : State :=
  let s1 := if (s.seg sg).slot.openRecord.isSome then s.countExchange sg .cancelled else s
  s1.withSlot sg (Slot.forRole (s1.segSettings sg).role)

/-- The agent at a WARM reset (R148). -/
def Agent.warm (a : Agent) : Agent := { a with mode := .idle, input := [], deferred := none, pendingAddress := none }

/-- The alert unit at a WARM reset: the current alert is dropped, the sequence and the pending causes are kept (R170). -/
def AlertUnit.warm (a : AlertUnit) : AlertUnit :=
  { a with state := .quiet, current := none, repeatCount := 0, repeatDue := none }

/-- A WARM reset: ports, slots, pool (its watermark kept), lanes, agent and alert unit, the cause record, and the start-up
load's beginning in the same event (R21, R42, R85, R118, R148, R170, R184, R187). -/
def State.warmReset (s : State) : State :=
  let s1 := Seg.list.foldl State.warmSlot (Port.list.foldl State.warmPort s)
  State.beginStartup
    { s1 with
      resetCause := .warm
      pool := s1.pool.afresh s1.pool.watermark
      alertLane := none
      agent := s1.agent.warm
      alert := s1.alert.warm }

/-- A COLD reset: the wipe, and the start-up load begins at once (R20, R147, R184). -/
def State.coldReset (s : State) : State := (s.coldWipe .cold).beginStartup

/-- The reset that a RESTART of this form asked for (R147). -/
def State.restart (s : State) (f : RestartForm) : State :=
  match f with
  | .cold => s.coldReset
  | .warm => s.warmReset

/-- The part is held in a reset: by the supply monitor, by RSTN, or without supply (R192, R193). -/
def State.heldInReset (s : State) : Bool := decide (s.supply ≠ .ok) || s.pinHeld

end Sys2Proof.Machine
end

