-- ==== Sys2Proof/Machine/AgentOps.lean ====
section
/-! DEFINITION. The management agent's shared operations (chapter 6): the input queue, replies and their placement, deferred
replies, the pending agent address, and the taking of a command. -/

namespace Sys2Proof.Machine

/-! ### The pending agent address (R127) -/

/-- The pending agent address takes effect if it is tied to reply `id`; a LOAD's mask and interval with it. -/
def State.settleAddress (s : State) (id : Nat) : State :=
  match s.agent.pendingAddress with
  | none => s
  | some pa =>
    if pa.tie = id then
      s.withAgent
        { s.agent with
          pendingAddress := none
          settings :=
            { address := pa.address
              mask := (pa.alongside.map (·.1)).getD s.agent.settings.mask
              interval := (pa.alongside.map (·.2)).getD s.agent.settings.interval } }
    else s

/-- A reply has been sent, discarded or lost: its pending address takes effect (R127), and a restart reply's reset is taken
(R147). -/
def State.settleReply (s : State) (r : Reply) : State :=
  match r.restart with
  | none => s.settleAddress r.id
  | some f => (s.settleAddress r.id).restart f

/-! ### Replies (R124 to R126) -/

/-- The next reply built, with its serial number. -/
def State.newReply (s : State) (frame : List Byte) (restart : Option RestartForm) : Reply := ⟨frame, s.agent.nextReply, restart⟩

/-- The serial number after a reply has been built. -/
def State.numberReply (s : State) : State := s.withAgent { s.agent with nextReply := s.agent.nextReply + 1 }

/-- The port takes no reply: it is OFF, or a segment in FIELD role (R76, R125). -/
def PortState.refusesReply (x : PortState) : Bool := x.isOff || decide (x.settings.role = .field)

/-- The offer of a reply to the lane of port `p` (R125): discarded where the port is OFF or FIELD, placed in an empty lane,
and held in REPLY-WAIT behind an occupied one. -/
def State.offerReply (s : State) (p : Port) (r : Reply) : State :=
  if (s.port p).refusesReply then s.settleReply r
  else
    match (s.port p).lane with
    | none => s.withLane p (some r)
    | some _ => s.withAgent { s.agent with mode := .replyWait p r }

/-- Build the reply to a taken command and offer it (R124, R125). -/
def State.answer (s : State) (rq : Request) (o : CommandOutcome) (body : List Byte) (restart : Option RestartForm) : State :=
  s.numberReply.offerReply rq.source (s.newReply (replyFrame rq.address rq.code rq.tag o body) restart)

/-- A reply with an outcome other than DONE, or a DONE reply with an empty body. -/
def State.answerPlain (s : State) (rq : Request) (o : CommandOutcome) : State := s.answer rq o [] none

/-- The lane of port `p` reports that it is free: a deferred reply owed to the port takes it, else a held reply (R76, R125,
R126). -/
def State.laneFree (s : State) (p : Port) : State :=
  match s.agent.deferred.bind fun d => if d.port = p then d.built else none with
  | some r => (s.withAgent { s.agent with deferred := none }).withLane p (some r)
  | none =>
    match s.agent.mode with
    | .idle => s
    | .replyWait q r => if q = p then (s.withAgent { s.agent with mode := .idle }).withLane p (some r) else s

/-- The deferred reply record of an accepted COMMIT or LOAD (R126). -/
def State.formDeferred (s : State) (rq : Request) : State :=
  s.withAgent { s.agent with deferred := some ⟨rq.source, rq.code, rq.tag, rq.address, none⟩ }

/-- The store gives the owed outcome: the deferred reply is built and offered to its port's lane; an occupied lane leaves it
waiting in the record (R126). -/
def State.offerDeferred (s : State) (o : CommandOutcome) : State :=
  match s.agent.deferred with
  | none => s
  | some d =>
    let r := s.newReply (replyFrame d.address d.command d.tag o []) none
    let s1 := s.numberReply
    if (s1.port d.port).refusesReply then (s1.withAgent { s1.agent with deferred := none }).settleReply r
    else
      match (s1.port d.port).lane with
      | none => (s1.withAgent { s1.agent with deferred := none }).withLane d.port (some r)
      | some _ => s1.withAgent { s1.agent with deferred := some { d with built := some r } }

/-- DISABLE PORT loses a deferred reply that waits for the port's lane; an address tied to it takes effect (R126, R127). -/
def State.loseDeferred (s : State) (p : Port) : State :=
  match s.agent.deferred with
  | none => s
  | some d =>
    match d.built with
    | none => s
    | some r => if d.port = p then (s.withAgent { s.agent with deferred := none }).settleAddress r.id else s

/-! ### The input queue (R33, R119, R120) -/

/-- A management frame that completes on the trunk is reported to the alert unit (R119, R165). -/
def State.reportManagement (s : State) (p : Port) : State :=
  match p with
  | .trunk => s.reportTrunkManagement
  | .seg _ => s

/-- The frame joins the input queue's tail, or is refused as AGENTOVF when 4 entries wait (R33, R120). -/
def State.joinInput (s : State) (p : Port) (b : Nat) : State :=
  if s.agent.input.length < Config.inputLimit then
    s.withAgent { s.agent with input := s.agent.input ++ [⟨b, p, (s.port p).settings.checkMode⟩] }
  else (s.count p .agentovf).dropRef b

/-- A management frame from port `p` in buffer `b` (R33, R119, R120). -/
def State.takeManagementFrame (s : State) (p : Port) (b : Nat) : State := (s.reportManagement p).joinInput p b

/-! ### Taking a command (R121 to R123) -/

/-- The request in an input entry's frame, with the address in force when the command is taken (R124). A DISABLE PORT that itself
puts a pending address in force (R127) answers with the old one: the model's reading (log 37). -/
def State.requestOf (s : State) (e : InputEntry) : Request :=
  Request.ofFrame e.source s.agent.settings.address (s.pool.frame e.buffer)

/-- The row of the command that the agent would take now: it is IDLE and the head entry of its input queue holds it (R121). -/
def State.headCommand (s : State) : Option Instr :=
  match s.agent.mode, s.agent.input with
  | .idle, e :: _ => some (s.requestOf e).row
  | _, _ => none

/-- The state with the head entry gone and its buffer's reference dropped (R121). -/
def State.afterTake (s : State) (e : InputEntry) : State :=
  (s.withAgent { s.agent with input := s.agent.input.tail }).dropRef e.buffer

/-- The agent's own check on a frame that completed on a port with check mode NONE (R121). -/
def State.agentCheckFails (s : State) (e : InputEntry) : Bool :=
  decide (e.checkMode = .none) && !passesCheck (s.pool.frame e.buffer)

/-- The taking event of row `i` (R121): the clock runs, the agent is IDLE and the head entry holds this row's command, or
nothing happens (log 3, log 17). A frame that fails the agent's own check is counted AGENTBAD and discarded; any other is
carried out whole by `perform`. -/
def State.takeCommand (s : State) (i : Instr) (perform : Request → State → State) : State :=
  if s.clockRunning && decide (s.headCommand = some i) then
    match s.agent.input with
    | [] => s
    | e :: _ =>
      if s.agentCheckFails e then ((s.afterTake e).count e.source .agentbad).followUp
      else (perform (s.requestOf e) (s.afterTake e)).followUp
  else s

/-- The store states in which a command is carried out (R123). -/
inductive Permit where
  | always | notLoading | onlyIdle | storeOperation
deriving DecidableEq, Repr

/-- The command is allowed in the store's present state (R123). -/
def State.permits (s : State) (k : Permit) : Bool :=
  match k, s.store.state with
  | .always, _ => true
  | .notLoading, .idle | .notLoading, .committing _ => true
  | .notLoading, .loading _ | .notLoading, .startup _ => false
  | .onlyIdle, .idle => true
  | .onlyIdle, .committing _ | .onlyIdle, .loading _ | .onlyIdle, .startup _ => false
  | .storeOperation, .idle => s.agent.deferred.isNone
  | .storeOperation, .committing _ | .storeOperation, .loading _ | .storeOperation, .startup _ => false

/-- The order of checks of R122 for a known command: allowed in the store state, else BUSY; a body that reads by its layout,
else BADARG; then the command itself, which answers NOENTRY where there is nothing to act on. -/
def State.checked {α : Type} (s : State) (rq : Request) (k : Permit) (read : List Byte → Option α) (carryOut : α → State) : State :=
  if s.permits k then
    match read rq.body with
    | none => s.answerPlain rq .badArg
    | some x => carryOut x
  else s.answerPlain rq .busy

/-- Reading an empty body. -/
def emptyBody? (body : List Byte) : Option Unit := if body = [] then some () else none

/-- Reading a body of one byte by `f`. -/
def oneByte? {α : Type} (f : Byte → Option α) (body : List Byte) : Option α :=
  match body with
  | [b] => f b
  | _ => none

end Sys2Proof.Machine
end

