-- ==== Sys2Proof/Machine/Receive.lean ====
section
/-! DEFINITION. The receiver and frame assembly (1.3, 1.4, 2.2), the completion of a frame and its routing (2.3, 2.4). -/

namespace Sys2Proof.Machine

/-- An event of the part's own timing acts only while CLKIN runs (R194, log 17). -/
def State.whenClocked (s : State) (f : State → State) : State := if s.clockRunning then f s else s

/-! ### Completion routing (R30 to R34) -/

/-- The error kinds of a frame counted once each on its source port (R31). -/
def State.countErrors (s : State) (p : Port) (e : ErrorSet) : State :=
  ((((s.countIf e.parity p .parity).countIf e.framing p .framing).countIf e.brk p .brk).countIf e.overlength p
      .overlength).countIf e.check p .checkfail

/-- The frame in buffer `b` is dropped, or handed to a RECEIVING slot as a bad answer, which the slot drops before its
attempt fails (R31, R100, log 19). -/
def State.dropOrFailAttempt (s : State) (p : Port) (b : Nat) : State :=
  match p with
  | .trunk => s.dropRef b
  | .seg sg =>
    match (s.seg sg).slot with
    | .receiving r => (s.dropRef b).attemptBadReply sg r
    | _ => s.dropRef b

/-- An errored frame (R31): counts, the snapshot offer, then the failed attempt or the drop. -/
def State.routeErrored (s : State) (p : Port) (b : Nat) (e : ErrorSet) (stamp : Stamp) : State :=
  (((s.countErrors p e).offerSnapshot p e.firstKind stamp (s.pool.frame b).length ((s.pool.frame b).take 8))).dropOrFailAttempt p b

/-- A frame is a management frame (R119, test 3 of R30). -/
def State.isManagement (s : State) (p : Port) (frame : List Byte) : Bool :=
  s.managementEffective p && decide (5 ≤ frame.length) && decide (frame.head? = some s.agent.settings.address)

/-- Tests 3 and 4 of R30: the agent, else the classifier. -/
def State.routeOrdinary (s : State) (p : Port) (b : Nat) : State :=
  if s.isManagement p (s.pool.frame b) then s.takeManagementFrame p b else s.classify p b

/-- A clean frame that completes on segment `sg` while its slot is RECEIVING (R98, R100): the answer, or a bad answer. -/
def State.judgeAnswer (s : State) (sg : Seg) (r : ExchangeRecord) (b : Nat) : State :=
  if (s.pool.frame b).head? = some r.station then s.exchangeReplied sg r b else (s.dropRef b).attemptBadReply sg r

/-- A clean frame that completes on segment `sg` while its slot is LAPSED (R104): a late answer, or unsolicited. -/
def State.judgeLate (s : State) (sg : Seg) (r : ExchangeRecord) (b : Nat) : State :=
  if (s.pool.frame b).head? = some r.station then (s.countExchange sg .late).dropRef b else s.classify (.seg sg) b

/-- A clean frame (tests 2 to 4 of R30). -/
def State.routeClean (s : State) (p : Port) (b : Nat) : State :=
  match p with
  | .trunk => s.routeOrdinary .trunk b
  | .seg sg =>
    match (s.seg sg).slot with
    | .receiving r => s.judgeAnswer sg r b
    | .lapsed r _ => s.judgeLate sg r b
    | _ => s.routeOrdinary (.seg sg) b

/-- The error set at completion: CHECK joins it when the check applies and fails (R29). -/
def State.completionErrors (s : State) (p : Port) (e : ErrorSet) (frame : List Byte) : ErrorSet :=
  if (s.port p).settings.checkMode = .check16 ∧ e.brk = false ∧ e.overlength = false ∧ passesCheck frame = false then
    { e with check := true }
  else e

/-- The frame in assembly is completed (R28): its length is noted, RXFRAMES is counted, and it is routed. -/
def State.complete (s : State) (p : Port) (f : Assembly) : State :=
  let s1 := (s.withPool (s.pool.setLength f.buffer f.length)).count p .rxframes
  let e := s1.completionErrors p f.errors (s1.pool.frame f.buffer)
  if e.isEmpty then s1.routeClean p f.buffer else s1.routeErrored p f.buffer e f.endStamp

/-! ### Characters -/

/-- A segment's turnaround guard counts from the end of a received character (R15); the trunk has none (R14). -/
def State.guardFromCharacter (s : State) (p : Port) (t : Nat) : State :=
  match p with
  | .trunk => s
  | .seg _ => s.withGuard p (some t)

/-- Arrival of a character on an IDLE receiver (R24, R25): a buffer is reserved and the receiver goes ASSEMBLING, or it is
refused as NOBUF; either way a slot hears of it. -/
def State.arriveIdle (s : State) (p : Port) : State :=
  let start := s.stampAt (s.leadingEdge (s.port p).settings)
  match s.pool.reserve with
  | some (b, m) =>
    ((s.withPool m).withRx p (Receiver.fresh (.assembling ⟨b, 0, ErrorSet.empty, start⟩))).reportArrival p
  | none =>
    ((((((s.withRx p ⟨.discarding .refused, none, false, some s.now⟩).count p .nobuf).offerSnapshot p .nobuf start 0
      []).raiseCause .pool).reportArrival p)).finish

/-- Arrival of a character (R8, R10, R11): in ASSEMBLING and DISCARDING it stops the gap timer. A line held low by a held
character or a declared break gives no arrival (log 29). -/
def State.arrive (s : State) (p : Port) : State :=
  let rx := (s.port p).rx
  if rx.held.isSome || rx.lineLow then s
  else
    match rx.state with
    | .off | .muted => s
    | .idle => s.arriveIdle p
    | .assembling _ | .discarding _ => s.withRx p { rx with gapStart := none }

/-- The frame record with its end timestamp moved (R23). -/
def Assembly.endedAt (f : Assembly) (stamp : Stamp) : Assembly := { f with endStamp := stamp }

/-- The frame with one more stored character (R26). -/
def Assembly.extended (f : Assembly) (parity framing : Bool) (stamp : Stamp) : Assembly :=
  { f with length := f.length + 1, errors := f.errors.addFaults parity framing, endStamp := stamp }

/-- The frame with OVERLENGTH in its error set (R27). -/
def Assembly.overfull (f : Assembly) (stamp : Stamp) : Assembly :=
  { f with errors := { f.errors with overlength := true }, endStamp := stamp }

/-- A received character in ASSEMBLING (R26, R27): stored at the frame's length, or the 257th, which is not stored. The 257th's
own parity or framing fault does not join the error set: R8 adds a received character's faults and R27 adds OVERLENGTH alone,
and the model reads R27 (DEDUCED, log 36). -/
def State.assemble (s : State) (p : Port) (f : Assembly) (data : Byte) (parity framing : Bool) (endAt : Nat) : State :=
  if f.length < Config.bufferBytes then
    (s.withPool (s.pool.store f.buffer f.length data)).withRx p
      ⟨.assembling (f.extended parity framing (s.stampAt endAt)), none, false, some endAt⟩
  else s.withRx p ⟨.discarding (.overlength (f.overfull (s.stampAt endAt))), none, false, some endAt⟩

/-- A received character, with its faults and its end, reaches frame assembly (R26, R27). Outside ASSEMBLING and DISCARDING
there is no character in progress (log 3). -/
def State.takeCharacter (s : State) (p : Port) (data : Byte) (parity framing : Bool) (endAt : Nat) : State :=
  match (s.port p).rx.state with
  | .off | .idle | .muted => s
  | .assembling f => (s.assemble p f data parity framing endAt).guardFromCharacter p endAt
  | .discarding (.overlength f) =>
    (s.withRx p ⟨.discarding (.overlength (f.endedAt (s.stampAt endAt))), none, false, some endAt⟩).guardFromCharacter p endAt
  | .discarding .refused => (s.withRx p ⟨.discarding .refused, none, false, some endAt⟩).guardFromCharacter p endAt
  | .discarding .broken => (s.withRx p ⟨.discarding .broken, none, false, some endAt⟩).guardFromCharacter p endAt

/-- The receiver is in the midst of a frame or a discard, where it takes characters (R8). -/
def RxState.takesCharacters (st : RxState) : Bool :=
  match st with
  | .assembling _ | .discarding _ => true
  | .off | .idle | .muted => false

/-- A character is received at the centre of its first stop bit (R8): all data bits zero and the stop bit low, it is held for
the break test (R9); any other reaches frame assembly with its faults. -/
def State.receive (s : State) (p : Port) (data : Byte) (parityBit stopBit : Bool) : State :=
  let rx := (s.port p).rx
  let st := (s.port p).settings
  if rx.held.isSome || rx.lineLow || !rx.state.takesCharacters then s
  else if data = 0x00#8 ∧ stopBit = false then
    s.withRx p { rx with held := some ⟨parityFault st.parity data parityBit, s.now⟩, gapStart := none }
  else s.takeCharacter p data (parityFault st.parity data parityBit) (!stopBit) (s.characterEnd st)

/-- The line returns high before the break time (R9): the held character is received as a zero with a framing fault, and it
ends now (R8, log 15). -/
def State.releaseHeld (s : State) (p : Port) : State :=
  match (s.port p).rx.held with
  | none => s
  | some h => s.takeCharacter p 0x00#8 h.parityFault true s.now

/-- The frame that a break ends in ASSEMBLING: the held character is stored as a zero without a fault, or as the 257th is not
stored; BREAK joins the error set and the frame ends now (R9, R26, R27). -/
def Assembly.broken (f : Assembly) (stamp : Stamp) : Assembly :=
  if f.length < Config.bufferBytes then
    { f with length := f.length + 1, errors := { f.errors with brk := true }, endStamp := stamp }
  else { f with errors := { f.errors with overlength := true, brk := true }, endStamp := stamp }

/-- A receiver after a declared break that still holds the line low (R9, R11). -/
def Receiver.afterBreak (d : Discard) : Receiver := ⟨.discarding d, none, true, none⟩

/-- The pool after a break in ASSEMBLING: the held zero is stored where the buffer has room (R26, R27). -/
def State.storeBreakByte (s : State) (f : Assembly) : State :=
  if f.length < Config.bufferBytes then s.withPool (s.pool.store f.buffer f.length 0x00#8) else s

/-- A break is declared (R9): the frame in assembly ends with BREAK and the receiver goes DISCARDING. -/
def State.declareBreak (s : State) (p : Port) : State :=
  match (s.port p).rx.held with
  | none => s
  | some _ =>
    match (s.port p).rx.state with
    | .off | .idle | .muted => s
    | .assembling f =>
      (((s.storeBreakByte f).withRx p (Receiver.afterBreak .broken)).complete p (f.broken s.timeBase)).finish
    | .discarding (.overlength f) =>
      ((s.withRx p (Receiver.afterBreak .broken)).complete p (f.broken s.timeBase)).finish
    | .discarding .refused => s.withRx p (Receiver.afterBreak .refused)
    | .discarding .broken => s.withRx p (Receiver.afterBreak .broken)

/-- The line returns high after a break: the gap timer starts (R11). -/
def State.lineHigh (s : State) (p : Port) : State :=
  if (s.port p).rx.lineLow then s.withRx p { (s.port p).rx with lineLow := false, gapStart := some s.now } else s

/-- The gap timer expires (R10, R11): the frame in assembly completes, or a discard ends; the receiver returns to IDLE. -/
def State.gapExpires (s : State) (p : Port) : State :=
  if (s.port p).rx.gapStart.isSome then
    match (s.port p).rx.state with
    | .off | .idle | .muted => s
    | .assembling f => ((s.withRx p (Receiver.fresh .idle)).complete p f).finish
    | .discarding (.overlength f) => ((s.withRx p (Receiver.fresh .idle)).complete p f).finish
    | .discarding .refused => ((s.withRx p (Receiver.fresh .idle)).reportDiscardEnd p).finish
    | .discarding .broken => (s.withRx p (Receiver.fresh .idle)).finish
  else s

end Sys2Proof.Machine
end

