-- ==== Sys2Proof/Machine/Line.lean ====
section
/-! DEFINITION. The meanings of the line commands: arrivals, characters, breaks and the gap timer (chapter 1.3, 1.4). -/

namespace Sys2Proof.Machine

/-- CHARACTER_ARRIVAL (R8, R24, R25). -/
def execCharacterArrival (p : Port) (s : State) : Host.Outcome State Fault Refusal :=
  .next (s.whenClocked fun s => s.arrive p)

/-- CHARACTER_RECEIVED (R8, R26, R27). -/
def execCharacterReceived (p : Port) (data : Byte) (parityBit stopBit : Bool) (s : State) : Host.Outcome State Fault Refusal :=
  .next (s.whenClocked fun s => s.receive p data parityBit stopBit)

/-- HELD_CHARACTER_RELEASED (R9, R26). -/
def execHeldCharacterReleased (p : Port) (s : State) : Host.Outcome State Fault Refusal :=
  .next (s.whenClocked fun s => s.releaseHeld p)

/-- BREAK_DECLARED (R9). -/
def execBreakDeclared (p : Port) (s : State) : Host.Outcome State Fault Refusal :=
  .next (s.whenClocked fun s => s.declareBreak p)

/-- GAP_TIMER_EXPIRY (R10, R11). -/
def execGapTimerExpiry (p : Port) (s : State) : Host.Outcome State Fault Refusal :=
  .next (s.whenClocked fun s => s.gapExpires p)

/-- LINE_RETURNS_HIGH_AFTER_BREAK (R11). -/
def execLineReturnsHighAfterBreak (p : Port) (s : State) : Host.Outcome State Fault Refusal :=
  .next (s.whenClocked fun s => s.lineHigh p)

end Sys2Proof.Machine
end

