-- ==== Sys2Proof/Machine/Reports.lean ====
section
/-! DEFINITION. The reply bodies of the reading commands (chapter 9.5) and the readings of request bodies (R189). -/

namespace Sys2Proof.Machine

/-! ### Reading request bodies -/

/-- Reading a rule index, 0 to 127. -/
def index? (b : Byte) : Option Nat := if b.toNat < Config.ruleEntries then some b.toNat else none

/-- Reading a READ HITS body: first index and count (R137). -/
def hitsRange? (body : List Byte) : Option (Nat × Nat) :=
  match body with
  | [first, count] =>
    if 1 ≤ count.toNat ∧ count.toNat ≤ 60 ∧ first.toNat + count.toNat ≤ Config.ruleEntries then
      some (first.toNat, count.toNat)
    else none
  | _ => none

/-- Reading a SET PORT body: port and settings block (R3, R131). -/
def portSettings? (body : List Byte) : Option (Port × Settings) :=
  match body with
  | p :: block => (port? p).bind fun p => (settings? p block).map fun st => (p, st)
  | [] => none

/-- Reading a WRITE RULE body: index and entry (R51, R135). -/
def indexedRule? (body : List Byte) : Option (Nat × Rule) :=
  match body with
  | i :: entry => (index? i).bind fun i => (rule? entry).map fun r => (i, r)
  | [] => none

/-- Reading the one-port form of CLEAR COUNTERS (R139). -/
def clearPort? (body : List Byte) : Option Port :=
  match body with
  | [form, p] => if form = 0x00#8 then port? p else none
  | _ => none

/-- Reading a body that is one given byte: the ALL and HITS forms of CLEAR COUNTERS, a form of RESTART. -/
def justByte? (b : Byte) (body : List Byte) : Option Unit := if body = [b] then some () else none

/-! ### Reply bodies -/

/-- The store state as it is reported (R146, R174): EMPTY when IDLE with no valid bank. -/
def Store.code (st : Store) : Byte :=
  match st.state with
  | .idle => if st.bankA.valid || st.bankB.valid then 0x00#8 else 0x03#8
  | .committing _ => 0x01#8
  | .loading _ | .startup _ => 0x02#8

/-- IDENTIFY (9.5.7, R128). -/
def State.identity (s : State) : List Byte :=
  be16 Config.vendorCode.toNat ++ be16 Config.partCode.toNat ++ [Config.revision, s.agent.settings.address, s.resetCause.code]
    ++ be32 s.timeBase.toNat

/-- The enqueue timestamp of a part's head; absent when the part is empty (9.5.3). -/
def headStamp (part : List Descriptor) : List Byte :=
  match part with
  | [] => absent 4
  | d :: _ => be32 d.enqueuedAt.toNat

/-- Reply lane occupied; absent for a segment in FIELD role (9.5.3). -/
def PortState.laneCode (x : PortState) : Byte :=
  match x.settings.role with
  | .uplink => yesNo x.lane.isSome
  | .field => 0xFF#8

/-- A port's block of the status record (9.5.3). -/
def PortState.statusBlock (x : PortState) : List Byte :=
  [yesNo x.enabled, x.settings.role.code, x.rx.state.code, x.tx.state.code, byteOf x.queue.urgent.length,
      byteOf x.queue.normal.length]
    ++ headStamp x.queue.urgent ++ headStamp x.queue.normal
    ++ [x.laneCode, yesNo x.pendingSettings.isSome, yesNo x.snapshot.isSome]

/-- The status record (9.5.3, R129). -/
def State.status (s : State) : List Byte :=
  Port.list.flatMap (fun p => (s.port p).statusBlock) ++ [yesNo s.alertLane.isSome] ++ Seg.list.map (fun sg => (s.seg sg).slot.code)
    ++ [byteOf s.pool.free.length, byteOf s.pool.watermark, s.alert.state.code, s.alert.sequence, s.alert.pendingCauses.code,
      s.store.code, s.agent.mode.code, byteOf s.agent.input.length, yesNo s.agent.deferred.isSome,
      yesNo s.agent.pendingAddress.isSome]
    ++ be32 s.timeBase.toNat

/-- READ PORT (9.5.1, R130). -/
def State.portReport (s : State) (p : Port) : List Byte :=
  let x := s.port p
  byteOf p.num :: (PortRecord.encode ⟨x.enabled, x.settings⟩ ++ [yesNo x.pendingSettings.isSome]
    ++ (x.pendingSettings.map Settings.encode).getD (absent 15))

/-- READ RULE (9.5.2, R58, R134). -/
def Entry.report (e : Entry) (i : Nat) : List Byte := byteOf i :: (e.rule.encode ++ be32 e.hits.toNat)

/-- The hit count of a table entry; 0 for an invalid one (R43, R58). -/
def hitsOf (e : Option Entry) : Count := (e.map (·.hits)).getD 0#32

/-- READ HITS (9.5.2, R58, R137). -/
def State.hitsReport (s : State) (first count : Nat) : List Byte :=
  byteOf count :: ((s.rules.drop first).take count).flatMap fun e => be32 (hitsOf e).toNat

/-- A segment's exchange counters; absent for port 0 (9.5.4). -/
def State.exchangeCountersReport (s : State) (p : Port) : List Byte :=
  match p with
  | .trunk => absent 32
  | .seg sg => (s.seg sg).counters.inOrder.flatMap fun c => be32 c.toNat

/-- READ COUNTERS (9.5.4, R138). -/
def State.countersReport (s : State) (p : Port) : List Byte :=
  byteOf p.num :: ((s.port p).counters.inOrder.flatMap (fun c => be32 c.toNat) ++ s.exchangeCountersReport p
    ++ [byteOf s.pool.free.length, byteOf s.pool.watermark, s.store.code]
    ++ be32 s.store.bankA.eraseCount.toNat ++ be32 s.store.bankB.eraseCount.toNat)

/-- The record that a slot holds (R88); in AWAITING the remaining response time is what is left on the timer (R116). -/
def State.slotRecord (s : State) (sg : Seg) : Option ExchangeRecord :=
  match (s.seg sg).slot with
  | .sendingExchange r | .receiving r | .lapsed r _ | .resend r => some r
  | .awaiting r due => some { r with remaining := some (s.millisLeft due) }
  | .outOfUse | .free | .sendingNoAnswer | .settling _ => none

/-- Bytes 5 to 23 of the exchange record (9.5.5). -/
def recordBytes (r : Option ExchangeRecord) : List Byte :=
  match r with
  | none => yesNo false :: absent 18
  | some r =>
    yesNo true :: (be16 r.number.toNat
      ++ [byteOf r.origin.num, r.station, (r.buffer.map byteOf).getD 0xFF#8, byteOf r.rule, r.priority.code, byteOf r.retries,
        yesNo r.notice, byteOf r.attempt]
      ++ be32 r.startedAt.toNat ++ (r.remaining.map be16).getD (absent 2) ++ [r.lastResult.code, yesNo r.retryPending])

/-- READ EXCHANGE (9.5.5, R116, R140). -/
def State.exchangeReport (s : State) (sg : Seg) : List Byte :=
  [byteOf sg.num, (s.seg sg).slot.code, (s.seg sg).slot.kindCode] ++ be16 (s.seg sg).lastNumber.toNat
    ++ recordBytes (s.slotRecord sg)

/-- TAKE SNAPSHOT (9.5.6, R141). -/
def Snapshot.report (r : Snapshot) (p : Port) : List Byte :=
  [byteOf p.num, r.kind.code] ++ be32 r.stamp.toNat ++ be16 r.lengthSeen
    ++ byteOf r.bytes.length :: (r.bytes ++ List.replicate (8 - r.bytes.length) 0x00#8) ++ [r.missed]

/-- A bank's part of READ STORE (9.5.7, R146). -/
def Bank.report (b : Bank) : List Byte := yesNo b.valid :: (be32 b.generation.toNat ++ be32 b.eraseCount.toNat)

/-- READ STORE (9.5.7, R146). -/
def Store.report (st : Store) : List Byte := st.bankA.report ++ st.bankB.report ++ [st.code]

end Sys2Proof.Machine
end

