-- ==== Sys2Proof/Machine/Management.lean ====
section
/-! DEFINITION. The meanings of the management commands (chapter 6): what each does to the state once it has been taken, and the
taking of each row. A meaning acts only when the head entry of the agent's input queue holds that row's command (log 6). -/

namespace Sys2Proof.Machine

/-! ### What the commands do -/

/-- ENABLE PORT (R18): a disabled port comes up, with any pending record made active. -/
def State.enablePort (s : State) (p : Port) : State :=
  let x := s.port p
  if x.enabled then s
  else
    let st := x.pendingSettings.getD x.settings
    (s.withPort p
      { x with
        enabled := true
        settings := st
        pendingSettings := none
        rx := Receiver.fresh .idle
        tx := Transmitter.fresh .idle
        guardFrom := none }).slotForRole p st.role

/-- The buffer of the frame in assembly, if the receiver holds one. -/
def RxState.buffer (st : RxState) : Option Nat :=
  match st with
  | .assembling f | .discarding (.overlength f) => some f.buffer
  | .off | .idle | .muted | .discarding .refused | .discarding .broken => none

/-- The port is disabled and its receiver goes OFF; a frame in assembly is abandoned (R19, R36). -/
def State.receiverOff (s : State) (p : Port) : State :=
  (s.withPort p { s.port p with enabled := false, rx := Receiver.fresh .off, guardFrom := none }).dropRef?
    (s.port p).rx.state.buffer

/-- A reply in a flushed lane is lost: a pending agent address tied to it takes effect (R84, R127). -/
def State.settleLost (s : State) (r : Option Reply) : State :=
  match r with
  | none => s
  | some r => s.settleAddress r.id

/-- DISABLE PORT on an enabled segment (R19, R36, R83, R84, R109, R126), in the order of R110. -/
def State.disableSegment (s : State) (sg : Seg) : State :=
  if (s.port (.seg sg)).enabled then
    (((((s.receiverOff (.seg sg)).abortSending (.seg sg)).flushQueue (.seg sg)).settleLost (s.port (.seg sg)).lane).loseDeferred
      (.seg sg)).cancelExchange sg
  else s

/-- The restart mark of the reply that DISABLE PORT loses on an enabled segment; a disabled one is left as it is (R19, R147). -/
def State.lostRestart (s : State) (sg : Seg) : Option RestartForm :=
  if (s.port (.seg sg)).enabled then (s.port (.seg sg)).lane.bind (·.restart) else none

/-- A restart whose reply was lost to a flush is taken (R147). -/
def State.restartIf (s : State) (f : Option RestartForm) : State :=
  match f with
  | none => s
  | some f => s.restart f

/-- The watermark set to the free count (R40). -/
def State.clearWatermark (s : State) : State := s.withPool { s.pool with watermark := s.pool.free.length }

/-- A port's counters, and a segment's exchange counters, set to 0 (R139). -/
def State.zeroPort (s : State) (p : Port) : State :=
  let s1 := s.withPort p { s.port p with counters := PortCounters.zero }
  match p with
  | .trunk => s1
  | .seg sg => s1.withSeg sg { s1.seg sg with counters := ExchangeCounters.zero }

/-- Every hit count set to 0 (R58). -/
def zeroHits (rules : List (Option Entry)) : List (Option Entry) := rules.map fun e => e.map fun e => { e with hits := 0#32 }

/-- The current alert is acknowledged (R166): QUIET, then the formation test. -/
def State.acknowledge (s : State) : State :=
  (s.withAlert { s.alert with state := .quiet, current := none, repeatCount := 0, repeatDue := none }).formAlert

/-- The sequence number matches the current alert (R142). -/
def State.matchesAlert (s : State) (sequence : Byte) : Bool := decide (s.alert.current.map (·.sequence) = some sequence)

/-- SET AGENT's settings: mask and interval at once, the address pending, tied to the next reply (R127, R143). -/
def State.setAgentSettings (s : State) (a : AgentSettings) : State :=
  s.withAgent
    { s.agent with
      settings := { a with address := s.agent.settings.address }
      pendingAddress := some ⟨a.address, s.agent.nextReply, none⟩ }

/-! ### The commands carried out (R122, R128 to R147) -/

/-- IDENTIFY (R128). -/
def doIdentify (rq : Request) (s : State) : State :=
  s.checked rq .always emptyBody? fun _ => s.answer rq .done s.identity none

/-- A command code that is none of the twenty (R122). -/
def doUnknown (rq : Request) (s : State) : State := s.answerPlain rq .badCmd

/-- READ STATUS (R129). -/
def doReadStatus (rq : Request) (s : State) : State :=
  s.checked rq .always emptyBody? fun _ => s.answer rq .done s.status none

/-- READ PORT (R130). -/
def doReadPort (rq : Request) (s : State) : State :=
  s.checked rq .notLoading (oneByte? port?) fun p => s.answer rq .done (s.portReport p) none

/-- SET PORT (R131): the reply is offered, then the record is placed. -/
def doSetPort (rq : Request) (s : State) : State :=
  s.checked rq .onlyIdle portSettings? fun x => (s.answerPlain rq .done).withPendingSettings x.1 (some x.2)

/-- ENABLE PORT (R132). -/
def doEnablePort (rq : Request) (s : State) : State :=
  s.checked rq .onlyIdle (oneByte? port?) fun p => (s.enablePort p).answerPlain rq .done

/-- DISABLE PORT (R133); port 0 is not allowed. -/
def doDisablePort (rq : Request) (s : State) : State :=
  s.checked rq .onlyIdle (oneByte? seg?) fun sg =>
    ((s.disableSegment sg).answerPlain rq .done).restartIf (s.lostRestart sg)

/-- READ RULE (R134). -/
def doReadRule (rq : Request) (s : State) : State :=
  s.checked rq .notLoading (oneByte? index?) fun i =>
    match s.rules.getD i none with
    | none => s.answerPlain rq .noEntry
    | some e => s.answer rq .done (e.report i) none

/-- WRITE RULE (R53, R135). -/
def doWriteRule (rq : Request) (s : State) : State :=
  s.checked rq .onlyIdle indexedRule? fun x =>
    (s.withRules (s.rules.set x.1 (some ⟨x.2, 0#32⟩))).answerPlain rq .done

/-- DELETE RULE (R54, R136). -/
def doDeleteRule (rq : Request) (s : State) : State :=
  s.checked rq .onlyIdle (oneByte? index?) fun i =>
    match s.rules.getD i none with
    | none => s.answerPlain rq .noEntry
    | some _ => (s.withRules (s.rules.set i none)).answerPlain rq .done

/-- READ HITS (R137). -/
def doReadHits (rq : Request) (s : State) : State :=
  s.checked rq .notLoading hitsRange? fun x => s.answer rq .done (s.hitsReport x.1 x.2) none

/-- READ COUNTERS (R138). -/
def doReadCounters (rq : Request) (s : State) : State :=
  s.checked rq .always (oneByte? port?) fun p => s.answer rq .done (s.countersReport p) none

/-- CLEAR COUNTERS in its PORT form (R139). -/
def doClearPort (rq : Request) (s : State) : State :=
  s.checked rq .notLoading clearPort? fun p => ((s.zeroPort p).clearWatermark).answerPlain rq .done

/-- CLEAR COUNTERS in its ALL form (R139). -/
def doClearAll (rq : Request) (s : State) : State :=
  s.checked rq .notLoading (justByte? 0x01#8) fun _ => ((Port.list.foldl State.zeroPort s).clearWatermark).answerPlain rq .done

/-- CLEAR COUNTERS in its HITS form (R58, R139). -/
def doClearHits (rq : Request) (s : State) : State :=
  s.checked rq .notLoading (justByte? 0x02#8) fun _ => ((s.withRules (zeroHits s.rules)).clearWatermark).answerPlain rq .done

/-- READ EXCHANGE (R140). -/
def doReadExchange (rq : Request) (s : State) : State :=
  s.checked rq .notLoading (oneByte? seg?) fun sg => s.answer rq .done (s.exchangeReport sg) none

/-- TAKE SNAPSHOT (R141, R158). -/
def doTakeSnapshot (rq : Request) (s : State) : State :=
  s.checked rq .notLoading (oneByte? port?) fun p =>
    match (s.port p).snapshot with
    | none => s.answerPlain rq .noEntry
    | some r => (s.withSnapshot p none).answer rq .done (r.report p) none

/-- ACK ALERT (R142, R166). -/
def doAckAlert (rq : Request) (s : State) : State :=
  s.checked rq .always (oneByte? some) fun q =>
    if s.alert.state = .quiet then s.answerPlain rq .noEntry
    else if s.matchesAlert q then s.acknowledge.answerPlain rq .done
    else s.answerPlain rq .badArg

/-- SET AGENT (R143). -/
def doSetAgent (rq : Request) (s : State) : State :=
  s.checked rq .onlyIdle agentSettings? fun a => (s.setAgentSettings a).answerPlain rq .done

/-- COMMIT (R126, R144, R175). -/
def doCommit (rq : Request) (s : State) : State :=
  s.checked rq .storeOperation emptyBody? fun _ => (s.formDeferred rq).beginCommit

/-- LOAD (R126, R145, R181). -/
def doLoad (rq : Request) (s : State) : State :=
  s.checked rq .storeOperation emptyBody? fun _ =>
    match s.store.newest with
    | none => s.answerPlain rq .noEntry
    | some id => (s.formDeferred rq).withStore { s.store with state := .loading id }

/-- READ STORE (R146). -/
def doReadStore (rq : Request) (s : State) : State :=
  s.checked rq .always emptyBody? fun _ => s.answer rq .done s.store.report none

/-- RESTART in its cold form (R147). -/
def doRestartCold (rq : Request) (s : State) : State :=
  s.checked rq .always (justByte? 0x00#8) fun _ => s.answer rq .done [] (some .cold)

/-- RESTART in its warm form (R147). -/
def doRestartWarm (rq : Request) (s : State) : State :=
  s.checked rq .always (justByte? 0x01#8) fun _ => s.answer rq .done [] (some .warm)

/-! ### The meanings -/

/-- IDENTIFY (R121, R128). -/
def execIdentify (s : State) : Host.Outcome State Fault Refusal := .next (s.takeCommand .identify doIdentify)

/-- UNKNOWN_COMMAND (R121, R122). -/
def execUnknownCommand (s : State) : Host.Outcome State Fault Refusal := .next (s.takeCommand .unknownCommand doUnknown)

/-- READ_STATUS (R121, R129). -/
def execReadStatus (s : State) : Host.Outcome State Fault Refusal := .next (s.takeCommand .readStatus doReadStatus)

/-- READ_PORT (R121, R130). -/
def execReadPort (s : State) : Host.Outcome State Fault Refusal := .next (s.takeCommand .readPort doReadPort)

/-- SET_PORT (R121, R131). -/
def execSetPort (s : State) : Host.Outcome State Fault Refusal := .next (s.takeCommand .setPort doSetPort)

/-- ENABLE_PORT (R121, R132). -/
def execEnablePort (s : State) : Host.Outcome State Fault Refusal := .next (s.takeCommand .enablePort doEnablePort)

/-- DISABLE_PORT (R121, R133). -/
def execDisablePort (s : State) : Host.Outcome State Fault Refusal := .next (s.takeCommand .disablePort doDisablePort)

/-- READ_RULE (R121, R134). -/
def execReadRule (s : State) : Host.Outcome State Fault Refusal := .next (s.takeCommand .readRule doReadRule)

/-- WRITE_RULE (R121, R135). -/
def execWriteRule (s : State) : Host.Outcome State Fault Refusal := .next (s.takeCommand .writeRule doWriteRule)

/-- DELETE_RULE (R121, R136). -/
def execDeleteRule (s : State) : Host.Outcome State Fault Refusal := .next (s.takeCommand .deleteRule doDeleteRule)

/-- READ_HITS (R121, R137). -/
def execReadHits (s : State) : Host.Outcome State Fault Refusal := .next (s.takeCommand .readHits doReadHits)

/-- READ_COUNTERS (R121, R138). -/
def execReadCounters (s : State) : Host.Outcome State Fault Refusal := .next (s.takeCommand .readCounters doReadCounters)

/-- CLEAR_COUNTERS_PORT (R121, R139). -/
def execClearCountersPort (s : State) : Host.Outcome State Fault Refusal := .next (s.takeCommand .clearCountersPort doClearPort)

/-- CLEAR_COUNTERS_ALL (R121, R139). -/
def execClearCountersAll (s : State) : Host.Outcome State Fault Refusal := .next (s.takeCommand .clearCountersAll doClearAll)

/-- CLEAR_COUNTERS_HITS (R121, R139). -/
def execClearCountersHits (s : State) : Host.Outcome State Fault Refusal := .next (s.takeCommand .clearCountersHits doClearHits)

/-- READ_EXCHANGE (R121, R140). -/
def execReadExchange (s : State) : Host.Outcome State Fault Refusal := .next (s.takeCommand .readExchange doReadExchange)

/-- TAKE_SNAPSHOT (R121, R141). -/
def execTakeSnapshot (s : State) : Host.Outcome State Fault Refusal := .next (s.takeCommand .takeSnapshot doTakeSnapshot)

/-- ACK_ALERT (R121, R142). -/
def execAckAlert (s : State) : Host.Outcome State Fault Refusal := .next (s.takeCommand .ackAlert doAckAlert)

/-- SET_AGENT (R121, R143). -/
def execSetAgent (s : State) : Host.Outcome State Fault Refusal := .next (s.takeCommand .setAgent doSetAgent)

/-- COMMIT (R121, R144). -/
def execCommit (s : State) : Host.Outcome State Fault Refusal := .next (s.takeCommand .commit doCommit)

/-- LOAD (R121, R145). -/
def execLoad (s : State) : Host.Outcome State Fault Refusal := .next (s.takeCommand .load doLoad)

/-- READ_STORE (R121, R146). -/
def execReadStore (s : State) : Host.Outcome State Fault Refusal := .next (s.takeCommand .readStore doReadStore)

/-- RESTART_COLD (R121, R147). -/
def execRestartCold (s : State) : Host.Outcome State Fault Refusal := .next (s.takeCommand .restartCold doRestartCold)

/-- RESTART_WARM (R121, R147). -/
def execRestartWarm (s : State) : Host.Outcome State Fault Refusal := .next (s.takeCommand .restartWarm doRestartWarm)

end Sys2Proof.Machine
end

