-- ==== Sys2Proof/Machine/Power.lean ====
section
/-! DEFINITION. The meanings of the resets from outside, of the supply and of the clock input (R20, R22, R192 to R194). They
act whether CLKIN runs or not (log 17). -/

namespace Sys2Proof.Machine

/-- The part leaves reset once no reset condition is left, and the start-up load begins (R184, R192, R193). -/
def State.leaveReset (s : State) : State := if s.heldInReset then s else s.beginStartup

/-- VDD has risen through 1.2 V (R193): nothing of an earlier state is kept, the cause is POWER, and the supply monitor holds
the part in reset. -/
def State.powerUp (s : State) : State := { s.coldWipe .power with supply := .heldPower, pinHeld := false }

/-- VDD falls below 2.7 V after the part has left a POWER reset (R193); a part without supply, or still held in a POWER reset,
gives no SUPPLY reset. The monitor's release ends the POWER reset even where RSTN holds the part on: the model's reading of
R192 and R193 (log 22). -/
def State.supplyFalls (s : State) : State :=
  match s.supply with
  | .ok | .heldSupply => { s.coldWipe .supply with supply := .heldSupply }
  | .heldPower | .lost => s

/-- VDD has been above 2.9 V for 2 ms (R193). -/
def State.supplyReleases (s : State) : State :=
  match s.supply with
  | .heldPower | .heldSupply => { s with supply := .ok }.leaveReset
  | .ok | .lost => s

/-- RSTN has been low for 10 microseconds (R192); it may overlap a POWER or SUPPLY reset. -/
def State.pinFalls (s : State) : State :=
  match s.supply with
  | .ok | .heldPower | .heldSupply => { s.coldWipe .pin with pinHeld := true }
  | .lost => s

/-- RSTN rises (R192). -/
def State.pinRises (s : State) : State := if s.pinHeld then { s with pinHeld := false }.leaveReset else s

/-- VDD falls below 1.2 V (R193): the part's state is not kept (log 16). -/
def State.supplyLost (s : State) : State :=
  { s.coldWipe .power with
    supply := .lost
    pinHeld := false
    pool := Pool.blank }

/-- POWER_RESET (R20, R193). -/
def execPowerReset (s : State) : Host.Outcome State Fault Refusal := .next s.powerUp

/-- SUPPLY_RESET (R20, R193). -/
def execSupplyReset (s : State) : Host.Outcome State Fault Refusal := .next s.supplyFalls

/-- SUPPLY_RELEASE (R184, R193). -/
def execSupplyRelease (s : State) : Host.Outcome State Fault Refusal := .next s.supplyReleases

/-- PIN_RESET (R20, R192). -/
def execPinReset (s : State) : Host.Outcome State Fault Refusal := .next s.pinFalls

/-- PIN_RESET_END (R184, R192). -/
def execPinResetEnd (s : State) : Host.Outcome State Fault Refusal := .next s.pinRises

/-- VDD_FALLS_BELOW_1V2 (R193). -/
def execVddFallsBelow1V2 (s : State) : Host.Outcome State Fault Refusal := .next s.supplyLost

/-- CLKIN_STOPS (R194): the part's timing stops and its state is kept. -/
def execClkinStops (s : State) : Host.Outcome State Fault Refusal := .next { s with clockRunning := false }

/-- CLKIN_RETURNS (R194): the part goes on from the state it was in. -/
def execClkinReturns (s : State) : Host.Outcome State Fault Refusal := .next { s with clockRunning := true }

end Sys2Proof.Machine
end

