-- ==== Sys2Proof/Machine/Sending.lean ====
section
/-! DEFINITION. The meanings of the turnaround guard's expiry, the send end, the slot timers' and the repeat timer's expiries
(R12, R16, R82, R93, R94, R96, R105, R164), over their shared operations. -/

namespace Sys2Proof.Machine

/-! ### Turnaround guard -/

/-- A receiver that watches the line takes the transition of a start bit; one that is MUTED or OFF does not (R8, R12). -/
def RxState.watches (st : RxState) : Bool :=
  match st with
  | .idle | .assembling _ | .discarding _ => true
  | .off | .muted => false

/-- The guard of a segment, counting from `t`, has run out (R12, R15): a MUTED receiver returns to IDLE, and a transmission
that waited may start. -/
def State.guardRunsOut (s : State) (sg : Seg) : State :=
  let x := s.port (.seg sg)
  let rx := if x.rx.state = .muted then Receiver.fresh .idle else x.rx
  (s.withPort (.seg sg) { x with rx := rx, guardFrom := none }).followUp

/-- A character is arriving whose leading edge fell inside the guard: it is taken before any start of a transmission (R16), so
the guard is held for the half bit by whose end its start bit has been confirmed (R8, log 35). -/
def State.guardYields (s : State) (sg : Seg) (t : Nat) : State :=
  s.withGuard (.seg sg) (some (t + (s.port (.seg sg)).settings.bitFine / 2))

/-- The expiry of a segment's guard while the port is not sending (R12, R15, R16). -/
def State.guardExpires (s : State) (sg : Seg) (edgeInside : Bool) : State :=
  match (s.port (.seg sg)).guardFrom, (s.port (.seg sg)).tx.state with
  | none, _ => s
  | some _, .sending _ _ => s
  | some t, .off | some t, .idle | some t, .waiting =>
    if edgeInside && (s.port (.seg sg)).rx.state.watches then s.guardYields sg t else s.guardRunsOut sg

/-! ### Send end -/

/-- The slot is told of the send end of a no-answer frame: SETTLING with the settle timer loaded (R93). -/
def State.slotSettles (s : State) (p : Port) : State :=
  match p with
  | .trunk => s
  | .seg sg =>
    match (s.seg sg).slot with
    | .sendingNoAnswer => s.withSlot sg (.settling (s.timerDue (s.segSettings sg).settleMillis))
    | _ => s

/-- The slot enters AWAITING at the send end of an attempt, with the full response timeout (R89, R94). -/
def State.slotAwaits (s : State) (sg : Seg) (r : ExchangeRecord) : State :=
  s.withSlot sg
    (.awaiting { r with remaining := some (s.segSettings sg).responseMillis } (s.timerDue (s.segSettings sg).responseMillis))

/-- The record of the attempt that port `p` is sending. -/
def State.attemptOn (s : State) (p : Port) : Option (Seg × ExchangeRecord) :=
  match p with
  | .trunk => none
  | .seg sg =>
    match (s.seg sg).slot with
    | .sendingExchange r => some (sg, r)
    | _ => none

/-- A descriptor's send end (R82): an EXCHANGE request's reference passes to the slot, any other is dropped and a slot told. -/
def State.finishDescriptor (s : State) (p : Port) (d : Descriptor) : State :=
  match d.kind with
  | .exchange _ =>
    match s.attemptOn p with
    | some (sg, r) => s.slotAwaits sg r
    | none => s.dropRef d.buffer
  | .plain | .reply | .notice => (s.dropRef d.buffer).slotSettles p

/-- A retry's send end (R82, R94): the transmitter's reference goes, the slot keeps its own. -/
def State.finishRetry (s : State) (p : Port) (b : Nat) : State :=
  match s.attemptOn p with
  | some (sg, r) => (s.dropRef b).slotAwaits sg r
  | none => s.dropRef b

/-- A lane reply's send end (R76, R82, R127, R147): the lane empties; a restart reply's reset is taken; otherwise a pending
agent address tied to the reply takes effect and the lane reports itself free. -/
def State.finishReply (s : State) (p : Port) : State :=
  match (s.port p).lane with
  | none => s
  | some r =>
    match r.restart with
    | some f => (s.withLane p none).restart f
    | none => ((s.withLane p none).settleAddress r.id).laneFree p

/-- The alert unit hears of the alert lane's send end (R163): in OUTSTANDING the repeat timer is loaded and started, in QUIET
the formation test is applied. -/
def State.finishAlert (s : State) : State :=
  match s.alert.state with
  | .outstanding =>
    (s.withAlertLane none).withAlert { s.alert with repeatDue := some (s.timerDue s.agent.settings.interval) }
  | .quiet => (s.withAlertLane none).formAlert
  | .stalled => s.withAlertLane none

/-- The current frame is finished according to its kind (R82). -/
def State.finishCurrent (s : State) (p : Port) (cur : Current) : State :=
  match cur with
  | .descriptor d => s.finishDescriptor p d
  | .retry b => s.finishRetry p b
  | .reply => s.finishReply p
  | .alert => s.finishAlert

/-- The receiver and the guard of a port whose frame has just ended (R12, R15): on a segment the guard counts from now, and a
guard of 0 ends MUTED at once. -/
def PortState.afterSend (x : PortState) (p : Port) (t : Nat) : PortState :=
  match p with
  | .trunk => { x with tx := Transmitter.fresh .idle }
  | .seg _ =>
    if x.settings.guardMicros = 0 then { x with tx := Transmitter.fresh .idle, rx := Receiver.fresh .idle, guardFrom := none }
    else { x with tx := Transmitter.fresh .idle, guardFrom := some t }

/-- The send end (R13, R82): TXFRAMES is counted, the current frame is finished, and what follows is started. -/
def State.sendEnds (s : State) (p : Port) : State :=
  match (s.port p).tx.state with
  | .off | .idle | .waiting => s
  | .sending cur _ =>
    (((s.withPort p ((s.port p).afterSend p s.now)).count p .txframes).finishCurrent p cur).followUp

/-! ### Timers -/

/-- The response timer expires in AWAITING (R96). -/
def State.responseExpires (s : State) (sg : Seg) : State :=
  match (s.seg sg).slot with
  | .awaiting r _ => (s.attemptTimedOut sg r).finish
  | _ => s

/-- The lapse timer expires in LAPSED (R105): RESEND with a retry pending, else FREE. -/
def State.lapseExpires (s : State) (sg : Seg) : State :=
  match (s.seg sg).slot with
  | .lapsed r _ => (s.withSlot sg (if r.retryPending then .resend r else .free)).followUp
  | _ => s

/-- The settle timer expires in SETTLING (R93). -/
def State.settleExpires (s : State) (sg : Seg) : State :=
  match (s.seg sg).slot with
  | .settling _ => (s.withSlot sg .free).followUp
  | _ => s

/-- The repeat timer expires (R164): below three repeats the alert is placed again, at three it stalls. -/
def State.repeatExpires (s : State) : State :=
  match s.alert.repeatDue, s.alert.state with
  | some _, .outstanding =>
    if s.alert.repeatCount < Config.repeatLimit then
      ((s.withAlert { s.alert with repeatCount := s.alert.repeatCount + 1, repeatDue := none }).placeCurrentAlert).followUp
    else s.withAlert { s.alert with state := .stalled, repeatDue := none }
  | _, _ => s

/-! ### The meanings -/

/-- TURNAROUND_GUARD_EXPIRY (R12, R13, R15, R16). -/
def execTurnaroundGuardExpiry (sg : Seg) (s : State) (edgeInside : Bool := false) : Host.Outcome State Fault Refusal :=
  .next (s.whenClocked fun s => s.guardExpires sg edgeInside)

/-- SEND_END (R13, R82). -/
def execSendEnd (p : Port) (s : State) : Host.Outcome State Fault Refusal :=
  .next (s.whenClocked fun s => s.sendEnds p)

/-- RESPONSE_TIMER_EXPIRY (R96, R102, R103). -/
def execResponseTimerExpiry (sg : Seg) (s : State) : Host.Outcome State Fault Refusal :=
  .next (s.whenClocked fun s => s.responseExpires sg)

/-- LAPSE_TIMER_EXPIRY (R105). -/
def execLapseTimerExpiry (sg : Seg) (s : State) : Host.Outcome State Fault Refusal :=
  .next (s.whenClocked fun s => s.lapseExpires sg)

/-- SETTLE_TIMER_EXPIRY (R93). -/
def execSettleTimerExpiry (sg : Seg) (s : State) : Host.Outcome State Fault Refusal :=
  .next (s.whenClocked fun s => s.settleExpires sg)

/-- REPEAT_TIMER_EXPIRY (R164). -/
def execRepeatTimerExpiry (s : State) : Host.Outcome State Fault Refusal :=
  .next (s.whenClocked fun s => s.repeatExpires)

end Sys2Proof.Machine
end

