-- ==== Sys2Proof/Machine/StoreEvents.lean ====
section
/-! DEFINITION. The meanings of the profile store's completions: a commit's, a load's and a start-up load's (R177, R178, R182,
R185). -/

namespace Sys2Proof.Machine

/-- A commit completes (R177, R178): the target's contents and validity, IDLE, the owed outcome, and on a mismatch cause
STORE. -/
def State.commitCompletes (s : State) (wrong : List (Nat × Byte)) : State :=
  match s.store.state with
  | .committing j =>
    if j.readsBack wrong then ((s.endCommit j wrong).offerDeferred .done).followUp
    else (((s.endCommit j wrong).offerDeferred .storeFail).raiseCause .store).finish
  | .idle | .loading _ | .startup _ => s

/-- A LOAD's agent settings wait, tied to its deferred reply, the next one to be built (R127, R182). -/
def State.awaitSettings (s : State) (a : AgentSettings) : State :=
  s.withAgent { s.agent with pendingAddress := some ⟨a.address, s.agent.nextReply, some (a.mask, a.interval)⟩ }

/-- Every port receives the image's record, without Enabled, as its pending record (R4, R182). -/
def State.placeRecords (s : State) (ports : PerPort PortRecord) : State :=
  Port.list.foldl (fun s p => s.withPendingSettings p (some (ports.get p).settings)) s

/-- A load's image is applied (R182): the store goes IDLE, the deferred reply is offered, the table is replaced, the pending
records are placed. -/
def State.applyLoad (s : State) (pr : Profile) : State :=
  let s1 := (s.withStore { s.store with state := .idle }).awaitSettings pr.agent
  (((s1.offerDeferred .done).withRules (freshTable pr.rules)).placeRecords pr.ports).followUp

/-- A load completes (R182). -/
def State.loadCompletes (s : State) : State :=
  match s.store.state with
  | .loading source => s.applyLoad (s.store.profileOf (some source))
  | .idle | .committing _ | .startup _ => s

/-- A start-up load completes (R185). -/
def State.startupCompletes (s : State) : State :=
  match s.store.state with
  | .startup source => (s.applyStartup (s.store.profileOf source)).followUp
  | .idle | .committing _ | .loading _ => s

/-- COMMIT_COMPLETION (R176 to R178). A cell outside a bank's body is no cell of the memory (9.6). -/
def execCommitCompletion (wrong : List (Nat × Byte)) (s : State) : Host.Outcome State Fault Refusal :=
  if (Instr.commitCompletion wrong).wellFormed then .next (s.whenClocked fun s => s.commitCompletes wrong)
  else .fault .noSuchCell

/-- LOAD_COMPLETION (R182). -/
def execLoadCompletion (s : State) : Host.Outcome State Fault Refusal := .next (s.whenClocked State.loadCompletes)

/-- STARTUP_LOAD_COMPLETION (R185). -/
def execStartupLoadCompletion (s : State) : Host.Outcome State Fault Refusal := .next (s.whenClocked State.startupCompletes)

end Sys2Proof.Machine
end

