-- ==== Sys2Proof/Machine/Dispatch.lean ====
section
/-! DEFINITION. The one table from commands to their meanings. -/

namespace Sys2Proof.Machine

/-- What a command does to everything but the queue of waiting commands. -/
def exec (i : Instr) (s : State) : Host.Outcome State Fault Refusal :=
  match i with
  | .characterArrival p => Sys2Proof.Machine.execCharacterArrival p s
  | .characterReceived p data parityBit stopBit => Sys2Proof.Machine.execCharacterReceived p data parityBit stopBit s
  | .heldCharacterReleased p => Sys2Proof.Machine.execHeldCharacterReleased p s
  | .breakDeclared p => Sys2Proof.Machine.execBreakDeclared p s
  | .gapTimerExpiry p => Sys2Proof.Machine.execGapTimerExpiry p s
  | .turnaroundGuardExpiry sg edgeInside => Sys2Proof.Machine.execTurnaroundGuardExpiry sg s edgeInside
  | .sendEnd p => Sys2Proof.Machine.execSendEnd p s
  | .responseTimerExpiry sg => Sys2Proof.Machine.execResponseTimerExpiry sg s
  | .lapseTimerExpiry sg => Sys2Proof.Machine.execLapseTimerExpiry sg s
  | .settleTimerExpiry sg => Sys2Proof.Machine.execSettleTimerExpiry sg s
  | .repeatTimerExpiry => Sys2Proof.Machine.execRepeatTimerExpiry s
  | .commitCompletion wrong => Sys2Proof.Machine.execCommitCompletion wrong s
  | .loadCompletion => Sys2Proof.Machine.execLoadCompletion s
  | .startupLoadCompletion => Sys2Proof.Machine.execStartupLoadCompletion s
  | .powerReset => Sys2Proof.Machine.execPowerReset s
  | .supplyReset => Sys2Proof.Machine.execSupplyReset s
  | .supplyRelease => Sys2Proof.Machine.execSupplyRelease s
  | .pinReset => Sys2Proof.Machine.execPinReset s
  | .pinResetEnd => Sys2Proof.Machine.execPinResetEnd s
  | .identify => Sys2Proof.Machine.execIdentify s
  | .unknownCommand => Sys2Proof.Machine.execUnknownCommand s
  | .readStatus => Sys2Proof.Machine.execReadStatus s
  | .readPort => Sys2Proof.Machine.execReadPort s
  | .setPort => Sys2Proof.Machine.execSetPort s
  | .enablePort => Sys2Proof.Machine.execEnablePort s
  | .disablePort => Sys2Proof.Machine.execDisablePort s
  | .readRule => Sys2Proof.Machine.execReadRule s
  | .writeRule => Sys2Proof.Machine.execWriteRule s
  | .deleteRule => Sys2Proof.Machine.execDeleteRule s
  | .readHits => Sys2Proof.Machine.execReadHits s
  | .readCounters => Sys2Proof.Machine.execReadCounters s
  | .clearCountersPort => Sys2Proof.Machine.execClearCountersPort s
  | .clearCountersAll => Sys2Proof.Machine.execClearCountersAll s
  | .clearCountersHits => Sys2Proof.Machine.execClearCountersHits s
  | .readExchange => Sys2Proof.Machine.execReadExchange s
  | .takeSnapshot => Sys2Proof.Machine.execTakeSnapshot s
  | .ackAlert => Sys2Proof.Machine.execAckAlert s
  | .setAgent => Sys2Proof.Machine.execSetAgent s
  | .commit => Sys2Proof.Machine.execCommit s
  | .load => Sys2Proof.Machine.execLoad s
  | .readStore => Sys2Proof.Machine.execReadStore s
  | .restartCold => Sys2Proof.Machine.execRestartCold s
  | .restartWarm => Sys2Proof.Machine.execRestartWarm s
  | .lineReturnsHighAfterBreak p => Sys2Proof.Machine.execLineReturnsHighAfterBreak p s
  | .vddFallsBelow1V2 => Sys2Proof.Machine.execVddFallsBelow1V2 s
  | .clkinStops => Sys2Proof.Machine.execClkinStops s
  | .clkinReturns => Sys2Proof.Machine.execClkinReturns s

end Sys2Proof.Machine
end

