-- ==== Sys2Proof/Machine/Due.lean ====
section
/-! DEFINITION. The events that the part's own timers and its agent make, which of them are due (R11, R12, R13, R91, R121, R164),
the tick of the clock (R22, R194), and the placing of a table word. -/

namespace Sys2Proof.Machine

/-- The event `c` if it is due. -/
def dueIf (b : Bool) (c : Instr) : List Instr := if b then [c] else []

/-- A timer of fine instants has run out. -/
def State.fineDue (s : State) (start : Option Nat) (length : Nat) : Bool :=
  match start with
  | none => false
  | some t => decide (t + length ≤ s.now)

/-- The fine instant at which a port began to send, if it is sending. -/
def TxState.sendingSince (tx : TxState) : Option Nat :=
  match tx with
  | .sending _ since => some since
  | .off | .idle | .waiting => none

/-- The fine instant of a held character's stop bit (R9). -/
def Receiver.heldSince (rx : Receiver) : Option Nat := rx.held.map fun h => h.since

/-- The time that the current frame of a port takes: its characters back to back (R7, R13). -/
def State.sendFine (s : State) (p : Port) : Nat :=
  match (s.port p).tx.state with
  | .sending cur _ => (s.currentBytes p cur).length * (s.port p).settings.characterFine
  | .off | .idle | .waiting => 0

/-- A port's own events: the gap timer (R11), the break test (R9), the send end (R13). -/
def State.portDue (s : State) (p : Port) : List Instr :=
  dueIf (s.fineDue (s.port p).rx.gapStart (s.port p).settings.gapFine) (.gapTimerExpiry p)
    ++ dueIf (s.fineDue (s.port p).rx.heldSince (s.port p).settings.characterFine) (.breakDeclared p)
    ++ dueIf (s.fineDue (s.port p).tx.state.sendingSince (s.sendFine p)) (.sendEnd p)

/-- The slot timer that has run out (R91). -/
def State.slotDue (s : State) (sg : Seg) : List Instr :=
  match (s.seg sg).slot with
  | .awaiting _ due => dueIf (decide (due ≤ s.now)) (.responseTimerExpiry sg)
  | .lapsed _ due => dueIf (decide (due ≤ s.now)) (.lapseTimerExpiry sg)
  | .settling due => dueIf (decide (due ≤ s.now)) (.settleTimerExpiry sg)
  | .outOfUse | .free | .sendingExchange _ | .sendingNoAnswer | .receiving _ | .resend _ => []

/-- A segment's own events: the turnaround guard (R12), which does not run out while the port sends, and the slot timer. That
a character is arriving whose leading edge fell inside the guard is the sender's to say before then (R16, log 35). -/
def State.segDue (s : State) (sg : Seg) : List Instr :=
  dueIf ((s.port (.seg sg)).tx.state.sendingSince.isNone
      && s.fineDue (s.port (.seg sg)).guardFrom (Config.finePerMicro * (s.port (.seg sg)).settings.guardMicros))
    (.turnaroundGuardExpiry sg false)
    ++ s.slotDue sg

/-- The alert unit's repeat timer has run out (R164). -/
def State.repeatIsDue (s : State) : Bool :=
  match s.alert.repeatDue, s.alert.state with
  | some due, .outstanding => decide (due ≤ s.now)
  | _, _ => false

/-- The agent's taking of the command at the head of its queue (R121). -/
def State.commandDue (s : State) : List Instr :=
  match s.headCommand with
  | none => []
  | some c => [c]

/-- Every event of the part's own that is due now; none while CLKIN stops (R194). -/
def State.dueEvents (s : State) : List Instr :=
  if s.clockRunning then
    Port.list.flatMap s.portDue ++ Seg.list.flatMap s.segDue ++ dueIf s.repeatIsDue .repeatTimerExpiry ++ s.commandDue
  else []

/-- Of several events that are due, the one that the part takes: a free value (log 5). -/
def State.pickEvent (s : State) (c : Instr) (others : List Instr) : Instr :=
  (c :: others).getD (Config.pick s.freeCount % (c :: others).length) c

/-- The next event of the part's own with the state it is taken in, if one is due; a choice among several uses up one free
value (log 1, log 5). -/
def State.nextEvent (s : State) : Option (Instr × State) :=
  match s.dueEvents with
  | [] => none
  | [c] => some (c, s)
  | c :: others => some (s.pickEvent c others, { s with freeCount := s.freeCount + 1 })

/-- The time base and its part of a microsecond one fine unit later (R22). -/
def State.countTime (s : State) : State :=
  if s.subMicro + 1 < Config.finePerMicro then { s with subMicro := s.subMicro + 1 }
  else { s with subMicro := 0, timeBase := s.timeBase + 1#32 }

/-- One fine unit of time passes, in which the time base counts unless the part is held in reset; with CLKIN stopped nothing
passes (R22, R194). -/
def State.tick (s : State) : State :=
  if s.clockRunning then
    if s.heldInReset then { s with now := s.now + 1 } else { s.countTime with now := s.now + 1 }
  else s

/-- The command that a table word spells, put at the front of the queue; no word spells one. -/
def State.placeWord (s : State) (nbits w : Nat) : State :=
  match decodeTableWord nbits w with
  | none => s
  | some c => s.withPending (c :: s.pending)

end Sys2Proof.Machine
end

