-- ==== Sys2Proof/Machine/Step.lean ====
section
/-! DEFINITION. One step of the block. -/

namespace Sys2Proof.Machine

/-- With a command waiting, the one at the front is carried out on the state with the queue's rest. With none waiting, the part
takes an event of its own that is due, or lets one fine unit of time pass (log 1). -/
def step (s : State) : Host.Outcome State Fault Refusal :=
  match s.pending with
  | c :: rest => exec c (s.withPending rest)
  | [] =>
    match s.nextEvent with
    | some (c, s') => exec c s'
    | none => .next s.tick

/-- `s` with the command that the table word spells put at the front of its queue; no word spells one, so `s` is unchanged. -/
def State.withFetchWord (s : State) (nbits w : Nat) : State := s.placeWord nbits w

end Sys2Proof.Machine
end

