-- ==== Sys2Proof/Safety.lean ====
section
/-! DEFINITION. What counts as a good state and a safe run: the laws that the spec says the FG416 keeps (R1, R3, R12, R19, R37,
R38, R51, R72, R79, R87, R108, R120, R143, R159, R164), in the terms that claims use. -/

namespace Sys2Proof.Machine

/-! ### The frame pool -/

/-- The law of the pool (R37): the free list holds numbers of buffers, without duplicates, and a buffer is on it exactly when
its reference count is 0. -/
abbrev Pool.lawful (m : Pool) : Prop :=
  m.refs.length = Config.poolBuffers ∧ m.free.Nodup ∧ (∀ b ∈ m.free, b < Config.poolBuffers) ∧
    ∀ b < Config.poolBuffers, b ∈ m.free ↔ m.refCount b = 0

/-- The buffers that a port's frame assembly, queue and transmitter hold references on, one entry for each holder (R38). -/
def PortState.holds (x : PortState) : List Nat :=
  x.rx.state.buffer.toList ++ (x.queue.urgent ++ x.queue.normal).map (·.buffer)
    ++ (match x.tx.state with
        | .sending cur _ => cur.buffer.toList
        | .off | .idle | .waiting => [])

/-- All holders of pool buffers: ports, exchange slots, the agent's input queue (R38). -/
def State.holds (s : State) : List Nat :=
  Port.list.flatMap (fun p => (s.port p).holds) ++ Seg.list.flatMap (fun sg => (s.seg sg).slot.requestReference.toList)
    ++ s.agent.input.map (·.buffer)

/-- The law of the counts (R38): a buffer's reference count is the number of its holders. -/
abbrev State.countsHolders (s : State) : Prop :=
  ∀ b < Config.poolBuffers, s.pool.refCount b = s.holds.count b

/-- A slot agrees with its segment's transmitter about the reference on the request (R81, R82, R88): while the slot is in
SENDING for the first attempt, the transmitter sends the EXCHANGE descriptor of the record's buffer and holds the reference
for it; for a later attempt it sends a retry from that buffer with a reference of its own. A record that stays in LAPSED after
FAILED has no buffer (R103). -/
def Slot.agreesWith (sl : Slot) (tx : TxState) : Bool :=
  match sl, tx with
  | .sendingExchange r, .sending (.descriptor d) _ =>
    decide (r.attempt = 1) && decide (r.buffer = some d.buffer) &&
      match d.kind with
      | .exchange _ => true
      | .plain | .reply | .notice => false
  | .sendingExchange r, .sending (.retry b) _ => decide (1 < r.attempt) && decide (r.buffer = some b)
  | .sendingExchange _, _ => false
  | .lapsed r _, _ => r.retryPending || decide (r.buffer = none)
  | _, _ => true

/-! ### Memory -/

/-- The pool's RAM and both banks are in canonical form. -/
abbrev State.memoryWf (s : State) : Prop :=
  Memory.wf s.pool.ram ∧ Memory.wf s.store.bankA.body ∧ Memory.wf s.store.bankB.body

/-! ### Bounds -/

/-- A transmit queue holds at most 20 descriptors (R72) and its aging counter is at most 4 (R79). -/
abbrev TxQueue.bounded (q : TxQueue) : Prop := q.depth ≤ Config.queueLimit ∧ q.aging ≤ Config.agingLimit

/-- Every bounded part of the state is within its bound: queues and aging counters (R72, R79), the agent's input queue (R120),
the rule table (R43), the repeat count (R159), and the model's part of a microsecond (log 2). -/
abbrev State.bounded (s : State) : Prop :=
  (∀ p ∈ Port.list, (s.port p).queue.bounded) ∧ s.agent.input.length ≤ Config.inputLimit ∧
    s.rules.length = Config.ruleEntries ∧ s.alert.repeatCount ≤ Config.repeatLimit ∧ s.subMicro < Config.finePerMicro

/-! ### Settings and roles -/

/-- Every active and every pending record passes the checks of R3, and the trunk is enabled (R18); so the trunk is in UPLINK
role and carries management (R1). -/
abbrev State.settingsOk (s : State) : Prop :=
  (∀ p ∈ Port.list, (s.port p).settings.inRange p = true ∧ ∀ st ∈ (s.port p).pendingSettings, st.inRange p = true) ∧
    (s.port .trunk).enabled = true

/-- A segment's slot is out of use exactly while its role is UPLINK (R87). -/
abbrev State.slotsFollowRoles (s : State) : Prop :=
  ∀ sg ∈ Seg.list, (s.seg sg).slot = .outOfUse ↔ (s.port (.seg sg)).settings.role = .uplink

/-- Everything that a program can set is in its range, and so is what is captured from it or waits to be set: port settings (R3),
rule entries (R51), the agent settings and a pending address with what comes with it (R127, R143), and a commit's image (R144,
R172). -/
abbrev State.configOk (s : State) : Prop :=
  s.settingsOk ∧ s.rules.length = Config.ruleEntries ∧ (∀ e ∈ s.rules, ∀ x ∈ e, x.rule.inRange = true) ∧
    s.agent.settings.inRange = true ∧
    (∀ pa ∈ s.agent.pendingAddress,
      AgentSettings.inRange
        ⟨pa.address, s.agent.settings.mask, (pa.alongside.map (·.2)).getD s.agent.settings.interval⟩ = true) ∧
    ∀ j, s.store.state = .committing j → j.image.inRange = true

/-- The exchange record's attempt number is at least 1 and never exceeds one plus its retries, and while a retry is pending it
is below that (R108). -/
abbrev ExchangeRecord.attemptOk (r : ExchangeRecord) : Prop :=
  1 ≤ r.attempt ∧ r.attempt ≤ 1 + r.retries ∧ (r.retryPending = true → r.attempt < 1 + r.retries)

/-- Every exchange record that a slot holds keeps the law of R108, and in RESEND a retry is pending (R105). -/
abbrev State.attemptsOk (s : State) : Prop :=
  ∀ sg ∈ Seg.list, (∀ r ∈ s.slotRecord sg, r.attemptOk) ∧ ∀ r, (s.seg sg).slot = .resend r → r.retryPending = true

/-! ### Ports that are off, and the holders of the pool -/

/-- The transmitter is SENDING. -/
def TxState.isSending (tx : TxState) : Bool :=
  match tx with
  | .sending _ _ => true
  | .off | .idle | .waiting => false

/-- A port that is off does nothing and holds nothing (R19, R20, R36, R84): the receiver is OFF with its tests and timers
stopped, the queue and the reply lane are empty. -/
abbrev PortState.offHoldsNothing (x : PortState) : Prop :=
  (x.enabled = false → x.tx.state = .off) ∧
    (x.tx.state = .off → x.rx = Receiver.fresh .off ∧ x.queue = TxQueue.empty ∧ x.lane = none)

/-- Ports that are off hold nothing and their slots are free (R19, R109, R117); a segment that sends has its receiver MUTED (R12).
From a reset to the completion of its start-up load every port is off and no command waits for the agent (R20, R21, R85, R148);
while a reset is held no start-up load runs (R184). -/
abbrev State.portsOk (s : State) : Prop :=
  (∀ p ∈ Port.list, (s.port p).offHoldsNothing) ∧
    (∀ sg ∈ Seg.list, (s.port (.seg sg)).tx.state = .off → (s.seg sg).slot = .free ∨ (s.seg sg).slot = .outOfUse) ∧
    (∀ sg ∈ Seg.list, (s.port (.seg sg)).tx.state.isSending = true → (s.port (.seg sg)).rx.state = .muted) ∧
    (s.heldInReset = true ∨ (∃ src, s.store.state = .startup src) →
      (∀ p ∈ Port.list, (s.port p).tx.state = .off) ∧ s.agent.input = []) ∧
    (s.heldInReset = true → s.store.state = .idle)

/-- The laws by which every buffer is accounted for: the pool's own (R37), the counts (R38), and what they need of slots,
attempts and ports. -/
abbrev State.holdersOk (s : State) : Prop :=
  s.pool.lawful ∧ s.countsHolders ∧ s.slotsFollowRoles ∧ s.attemptsOk ∧
    (∀ sg ∈ Seg.list, (s.seg sg).slot.agreesWith (s.port (.seg sg)).tx.state = true) ∧ s.portsOk

/-! ### The alert unit -/

/-- The current alert is present exactly in OUTSTANDING and STALLED, and the repeat timer runs in OUTSTANDING alone (R159,
R163, R164). -/
abbrev AlertUnit.consistent (a : AlertUnit) : Prop :=
  (a.current = none ↔ a.state = .quiet) ∧ (a.repeatDue ≠ none → a.state = .outstanding)

/-- The alert unit is consistent, the alert lane is empty while the repeat timer runs (R164), and an alert that may form has
formed, except that causes kept over a WARM reset wait for the start-up load (R161, R170). -/
abbrev State.alertsOk (s : State) : Prop :=
  s.alert.consistent ∧ (s.alert.repeatDue ≠ none → s.alertLane = none) ∧
    (s.alertMayForm = true → ∃ src, s.store.state = .startup src)

/-! ### What may follow within an event -/

/-- The slot of a FIELD segment holds something and is not in RESEND: the segment can start nothing and change no setting
(R15, R112). -/
abbrev State.slotBusy (s : State) (sg : Seg) : Prop :=
  (s.segSettings sg).role = .field ∧ (s.seg sg).slot ≠ .free ∧ ∀ r, (s.seg sg).slot ≠ .resend r

/-- `t` comes from `s` by what may follow within an event, starts of transmissions (R13) and pending records becoming active
at idle points (R5): every field says what that leaves as it was. -/
structure State.StartsFrom (s t : State) : Prop where
  pending : t.pending = s.pending
  now : t.now = s.now
  timeBase : t.timeBase = s.timeBase
  subMicro : t.subMicro = s.subMicro
  clockRunning : t.clockRunning = s.clockRunning
  supply : t.supply = s.supply
  pinHeld : t.pinHeld = s.pinHeld
  resetCause : t.resetCause = s.resetCause
  freeCount : t.freeCount = s.freeCount
  alertLane : t.alertLane = s.alertLane
  rules : t.rules = s.rules
  agent : t.agent = s.agent
  alert : t.alert = s.alert
  store : t.store = s.store
  free : t.pool.free = s.pool.free
  lens : t.pool.lens = s.pool.lens
  ram : t.pool.ram = s.pool.ram
  watermark : t.pool.watermark = s.pool.watermark
  enabled : ∀ p, (t.port p).enabled = (s.port p).enabled
  lane : ∀ p, (t.port p).lane = (s.port p).lane
  counters : ∀ p, (t.port p).counters = (s.port p).counters
  snapshot : ∀ p, (t.port p).snapshot = (s.port p).snapshot
  settings : ∀ p, (s.port p).pendingSettings = none →
    (t.port p).settings = (s.port p).settings ∧ (t.port p).pendingSettings = none
  offered : ∀ p st, (s.port p).pendingSettings = some st →
    ((t.port p).settings = (s.port p).settings ∧ (t.port p).pendingSettings = some st) ∨
      ((t.port p).settings = st ∧ (t.port p).pendingSettings = none)
  off : ∀ p, (s.port p).tx.state = .off → t.port p = s.port p
  sending : ∀ p c n, (s.port p).tx.state = .sending c n → t.port p = s.port p
  awake : ∀ p, (s.port p).tx.state ≠ .off → (t.port p).tx.state ≠ .off
  rx : ∀ p, (t.port p).rx = (s.port p).rx ∨ ((s.port p).rx.state = .idle ∧ (t.port p).rx = Receiver.fresh .muted)
  trunkRx : (t.port .trunk).rx = (s.port .trunk).rx
  busy : ∀ sg, s.slotBusy sg → t.seg sg = s.seg sg ∧ t.segSettings sg = s.segSettings sg
  exchangeCounters : ∀ sg k, k ≠ .exchanges → (t.seg sg).counters.get k = (s.seg sg).counters.get k

/-! ### Records -/

/-- The bytes `field` stand in `record` at offset `offset`. -/
abbrev fieldAt (record : List Byte) (offset : Nat) (field : List Byte) : Prop :=
  (record.drop offset).take field.length = field

/-! ### The taking of a command -/

/-- The agent takes the entry `e` as row `i`: CLKIN runs, the agent is IDLE, `e` heads its input queue and holds that row's
command, and the frame passes the agent's own check where that is needed (R121). -/
structure State.Takes (s : State) (i : Instr) (e : InputEntry) (rest : List InputEntry) : Prop where
  clock : s.clockRunning = true
  mode : s.agent.mode = .idle
  input : s.agent.input = e :: rest
  row : (s.requestOf e).row = i
  passes : s.agentCheckFails e = false

/-- The state after the entry `e` has been taken: it has left the input queue and its buffer's reference is dropped (R121). -/
def State.taken (s : State) (e : InputEntry) : State :=
  { s with
    pool := s.pool.drop e.buffer
    agent := { s.agent with input := s.agent.input.tail } }

/-- The reply to the command in `e` (R124), as it stands in a lane. -/
def State.replyTo (s : State) (e : InputEntry) (o : CommandOutcome) (body : List Byte) (f : Option RestartForm) : Reply :=
  ⟨replyFrame s.agent.settings.address (s.requestOf e).code (s.requestOf e).tag o body, s.agent.nextReply, f⟩

/-- The agent once the reply numbered `id` has left: a pending address tied to it is in force, a LOAD's mask and interval with
it (R127). -/
def Agent.addressed (a : Agent) (id : Nat) : Agent :=
  match a.pendingAddress with
  | none => a
  | some pa =>
    if pa.tie = id then
      { a with
        pendingAddress := none
        settings := ⟨pa.address, (pa.alongside.map (·.1)).getD a.settings.mask, (pa.alongside.map (·.2)).getD a.settings.interval⟩ }
    else a

/-- The reply `r`, no restart reply, offered to the lane of port `p` (R125): placed in an empty lane, held in REPLY-WAIT behind
an occupied one, and discarded where the port is off or in FIELD role, where an address tied to it is in force at once
(R127). Its serial number is used up. -/
def State.replyOffered (s : State) (p : Port) (r : Reply) : State :=
  let a := { s.agent with nextReply := s.agent.nextReply + 1 }
  if (s.port p).isOff = true ∨ (s.port p).settings.role = .field then { s with agent := a.addressed r.id }
  else if (s.port p).lane = none then { s with ports := s.ports.set p { s.port p with lane := some r }, agent := a }
  else { s with agent := { a with mode := .replyWait p r } }

/-- The entry `e` taken and answered with this outcome and an empty body, and nothing else done (R122). -/
def State.answered (s : State) (e : InputEntry) (o : CommandOutcome) : State :=
  (s.taken e).replyOffered e.source (s.replyTo e o [] none)

/-- The store lets reading commands be carried out: it is IDLE or COMMITTING (R123). -/
def State.notLoading (s : State) : Prop := s.store.state = .idle ∨ ∃ j, s.store.state = .committing j

/-! ### Lines and frames -/

/-- CLKIN runs and the port's line is not held low by a held character or a declared break. -/
structure State.LineOpen (s : State) (p : Port) : Prop where
  clock : s.clockRunning = true
  held : (s.port p).rx.held = none
  line : (s.port p).rx.lineLow = false

/-- The bytes of the frame in assembly `f`. -/
def State.assembled (s : State) (f : Assembly) : List Byte := s.pool.bytes f.buffer f.length

/-- Port `p`'s gap timer runs over the frame `f`, in ASSEMBLING or over length (R11, R28); the buffer is one of the 64. -/
structure State.Completing (s : State) (p : Port) (f : Assembly) : Prop where
  clock : s.clockRunning = true
  timer : (s.port p).rx.gapStart ≠ none
  state : (s.port p).rx.state = .assembling f ∨ (s.port p).rx.state = .discarding (.overlength f)
  lens : s.pool.lens.length = Config.poolBuffers
  buffer : f.buffer < Config.poolBuffers

/-- A completed frame has no error: its set is empty and the check, where it applies, passes (R28, R29). -/
structure State.Clean (s : State) (p : Port) (f : Assembly) : Prop where
  errors : f.errors = ErrorSet.empty
  check : (s.port p).settings.checkMode = .none ∨ passesCheck (s.assembled f) = true

/-- The state once the frame `f` on port `p` has completed, before its consumer acts: the receiver IDLE, RXFRAMES counted, the
length noted (R28). -/
def State.completed (s : State) (p : Port) (f : Assembly) : State :=
  { s with
    pool := s.pool.setLength f.buffer f.length
    ports := s.ports.set p
      { s.port p with rx := Receiver.fresh .idle, counters := (s.port p).counters.bump .rxframes } }

/-- Segment slots that judge no frame of port `p` themselves: a frame of the trunk, or of a segment whose slot is neither
RECEIVING nor LAPSED (R30). -/
def State.unjudged (s : State) (p : Port) : Prop :=
  ∀ sg, p = .seg sg → (∀ r, (s.seg sg).slot ≠ .receiving r) ∧ ∀ r due, (s.seg sg).slot ≠ .lapsed r due

/-- A clean frame that the classifier gets: no management frame, and either unjudged or, in LAPSED, from another station than
the record's (R30, R104). -/
structure State.Classified (s : State) (p : Port) (f : Assembly) : Prop where
  completing : s.Completing p f
  clean : s.Clean p f
  passed : (s.unjudged p ∧ s.isManagement p (s.assembled f) = false) ∨
    ∃ sg r due, p = .seg sg ∧ (s.seg sg).slot = .lapsed r due ∧ (s.assembled f).head? ≠ some r.station

/-- The error set of a completed frame: the characters' own, with CHECK where the check applies and fails (R28, R29). -/
def State.errorsOf (s : State) (p : Port) (f : Assembly) : ErrorSet :=
  if (s.port p).settings.checkMode = .check16 ∧ f.errors.brk = false ∧ f.errors.overlength = false ∧
      passesCheck (s.assembled f) = false then
    { f.errors with check := true }
  else f.errors

/-- One counter of `c` counted if `b` holds. -/
def PortCounters.bumpIf (c : PortCounters) (b : Bool) (k : PortCounter) : PortCounters := if b then c.bump k else c

/-- The counters with each kind of the error set counted once (R31). -/
def PortCounters.withErrors (c : PortCounters) (e : ErrorSet) : PortCounters :=
  ((((c.bumpIf e.parity .parity).bumpIf e.framing .framing).bumpIf e.brk .brk).bumpIf e.overlength .overlength).bumpIf e.check
    .checkfail

/-- A slot that hears of an arrival at instant `now`: AWAITING stops its timer and keeps the whole milliseconds that were
left (R95). -/
def Slot.heard (sl : Slot) (now : Nat) : Slot :=
  match sl with
  | .awaiting r due => .receiving { r with remaining := some ((due - now) / Config.finePerMilli) }
  | sl => sl

/-- The guard's starting instant of port `p` after a character that ended at `t`: a segment's counts from there (R15). -/
def guardAfter (p : Port) (before : Option Nat) (t : Nat) : Option Nat :=
  match p with
  | .trunk => before
  | .seg _ => some t

/-! ### Alerts -/

/-- The pending causes once the causes `ks` have been raised under the mask (R160). -/
def State.causesWith (s : State) (ks : List Cause) : CauseSet :=
  ks.foldl (fun c k => if s.agent.settings.mask.has k then c.add k else c) s.alert.pendingCauses

/-- The alert with these causes that forms now (R161, R162). -/
def State.alertFrom (s : State) (causes : CauseSet) : Alert where
  sequence := s.alert.sequence + 1
  causes := causes
  stamp := s.timeBase
  freeCount := s.pool.free.length
  frame := alertFrame s.agent.settings.address (s.alert.sequence + 1) causes s.timeBase s.pool.free.length

/-- The state once the causes `ks` have been raised and the formation test applied (R160, R161): in QUIET with causes pending
and the alert lane empty an alert forms, and otherwise the causes wait. -/
def State.alerted (s : State) (ks : List Cause) : State :=
  if s.alert.state = .quiet ∧ s.causesWith ks ≠ CauseSet.empty ∧ s.alertLane = none then
    { s with
      alert := ⟨.outstanding, s.alert.sequence + 1, CauseSet.empty, some (s.alertFrom (s.causesWith ks)), 0, none⟩
      alertLane := some (s.alertFrom (s.causesWith ks)).frame }
  else { s with alert := { s.alert with pendingCauses := s.causesWith ks } }

/-- The cause that an offer to port `p`'s snapshot raises: SNAPSHOT when it is EMPTY (R156, R157). -/
def State.snapshotCause (s : State) (p : Port) : List Cause := if (s.port p).snapshot = none then [.snapshot] else []

/-- A port's snapshot after an offer (R156, R157). -/
def snapshotAfter (before : Option Snapshot) (kind : SnapshotKind) (stamp : Stamp) (length : Nat) (bytes : List Byte) :
    Option Snapshot :=
  match before with
  | none => some ⟨kind, stamp, length, bytes, 0#8⟩
  | some r => some { r with missed := if r.missed = 255#8 then r.missed else r.missed + 1#8 }

/-- The queue of a port accepts a descriptor: the port is enabled and up, with fewer than 20 descriptors (R73). -/
abbrev State.accepts (s : State) (p : Port) : Prop :=
  (s.port p).enabled = true ∧ (s.port p).tx.state ≠ .off ∧ (s.port p).queue.depth < Config.queueLimit

/-- The state once a frame of `n` bytes in buffer `b` has completed on port `p` with the error set `e`, before anything is
done with the buffer (R28, R31, R155 to R157). -/
def State.errored (s : State) (p : Port) (rx : Receiver) (b n : Nat) (e : ErrorSet) (stamp : Stamp) : State :=
  { s with
    pool := s.pool.setLength b n
    ports := s.ports.set p
      { s.port p with
        rx := rx
        counters := ((s.port p).counters.bump .rxframes).withErrors e
        snapshot := snapshotAfter (s.port p).snapshot e.firstKind stamp n ((s.pool.bytes b n).take 8) } }

/-! ### Exchanges -/

/-- The attempt of `r`, failed as counter `k` counts it, is retried (R102). -/
def State.retryScheduled (s : State) (sg : Seg) (r : ExchangeRecord) (k : ExchangeCounter) : State :=
  { s with
    segs := s.segs.set sg
      { s.seg sg with
        slot := .lapsed { r with retryPending := true } (s.now + Config.finePerMilli * (s.segSettings sg).lapseMillis)
        counters := ((s.seg sg).counters.bump k).bump .retries } }

/-- The attempt of `r`, failed as counter `k` counts it, was the last: outcome FAILED (R103), up to the notice. -/
def State.exchangeLost (s : State) (sg : Seg) (r : ExchangeRecord) (k : ExchangeCounter) (b : Nat) : State :=
  { s with
    pool := s.pool.drop b
    segs := s.segs.set sg
      { s.seg sg with
        slot := .lapsed { r with buffer := none, retryPending := false } (s.now + Config.finePerMilli * (s.segSettings sg).lapseMillis)
        counters := ((s.seg sg).counters.bump k).bump .failed } }

/-- The attempt of `r`, whose request is in buffer `b`, failed as counter `k` counts it: a retry or the outcome FAILED with its
notice and its cause (R102, R103), beside the causes `ks` that the event raises itself. -/
def State.attemptEnds (s : State) (sg : Seg) (r : ExchangeRecord) (k : ExchangeCounter) (b : Nat) (ks : List Cause) : State :=
  if r.attempt < 1 + r.retries then (s.retryScheduled sg r k).alerted ks
  else
    ((s.exchangeLost sg r k b).noticeIf r.notice
      ⟨r.origin, sg, r.station, r.lastResult.reason, r.attempt, r.number, r.rule⟩).alerted (ks ++ [.exchange])

/-! ### Transmission -/

/-- The level of bit `j` of the character `b` on the line (R7): the start bit low, the data bits least significant first, the
parity bit where the format has one, stop bits high. -/
def Settings.lineBit (st : Settings) (b : Byte) (j : Nat) : Bool :=
  if j = 0 then false
  else if j ≤ 8 then b.getLsbD (j - 1)
  else if j = 9 ∧ st.parity = .even then decide (onesOf b % 2 = 1)
  else if j = 9 ∧ st.parity = .odd then decide (onesOf b % 2 = 0)
  else true

/-- A port whose frame has just ended (R12, R13, R15, R82): TXFRAMES is counted, the transmitter is IDLE, and on a segment the
guard counts from now, or with a guard of 0 the receiver is IDLE at once. -/
def State.sentPort (s : State) (p : Port) : PortState :=
  let x := { s.port p with tx := Transmitter.fresh .idle, counters := (s.port p).counters.bump .txframes }
  match p with
  | .trunk => x
  | .seg _ =>
    if x.settings.guardMicros = 0 then { x with rx := Receiver.fresh .idle, guardFrom := none }
    else { x with guardFrom := some s.now }

/-- The state at a send end before the current frame is finished according to its kind. -/
def State.sent (s : State) (p : Port) : State := { s with ports := s.ports.set p (s.sentPort p) }

/-- Port `p` in SENDING the frame `cur` from now on: a segment's receiver is MUTED and its guard has run out (R12, R15, R81). -/
def State.sendingPort (s : State) (p : Port) (cur : Current) : PortState :=
  { s.port p with
    tx := ⟨.sending cur s.now, none⟩
    rx := match p with
      | .trunk => (s.port p).rx
      | .seg _ => Receiver.fresh .muted
    guardFrom := none }

/-! ### Replies -/

/-- A deferred reply, built and waiting for the lane of port `p` (R126). -/
def Agent.owedTo (a : Agent) (p : Port) : Option Reply := a.deferred.bind fun d => if d.port = p then d.built else none

/-- The reply held in REPLY-WAIT for port `p` (R125). -/
def Agent.heldFor (a : Agent) (p : Port) : Option Reply :=
  match a.mode with
  | .idle => none
  | .replyWait q r => if q = p then some r else none

/-- The owed reply of the deferred record `d`, built as `frame`, offered to its port's lane (R126): placed in a ready lane and
the record gone; kept in the record while the lane is occupied; discarded with the record where the port is off or in FIELD
role, and then an address tied to it is in force (R127). -/
def State.deferredOffered (s : State) (d : Deferred) (frame : List Byte) : State :=
  let r : Reply := ⟨frame, s.agent.nextReply, none⟩
  let a := { s.agent with nextReply := s.agent.nextReply + 1 }
  if (s.port d.port).isOff = true ∨ (s.port d.port).settings.role = .field then
    { s with agent := Agent.addressed { a with deferred := none } r.id }
  else if (s.port d.port).lane = none then
    { s with
      ports := s.ports.set d.port { s.port d.port with lane := some r }
      agent := { a with deferred := none } }
  else { s with agent := { a with deferred := some { d with built := some r } } }

/-! ### Resets -/

/-- The commands that act from outside on the supply, the reset pin and the clock input. -/
def isOutside (c : Instr) : Bool :=
  match c with
  | .powerReset | .supplyReset | .supplyRelease | .pinReset | .pinResetEnd | .vddFallsBelow1V2 | .clkinStops
  | .clkinReturns => true
  | _ => false

/-- `t` is `s` after a reset of a cold kind (R20, R22, R41, R86, R117, R148, R153, R154, R159, R180, R183, R187). That the rule
table is empty until the start-up load completes is the model's choice (log 12). -/
structure State.ColdResetOf (s t : State) (k : ResetCause) : Prop where
  cause : t.resetCause = k
  timeBase : t.timeBase = 0#32 ∧ t.subMicro = 0
  counts : ∀ b < Config.poolBuffers, t.pool.refCount b = 0
  free : t.pool.free = List.range Config.poolBuffers
  rules : t.rules = emptyTable
  watermark : t.pool.watermark = Config.poolBuffers
  bytes : t.pool.ram = s.pool.ram
  holders : t.holds = []
  stopped : ∀ p, (t.port p).rx.state = .off ∧ (t.port p).tx.state = .off
  outputs : (∀ p, t.txdLevel p = true) ∧ ∀ sg, t.driverEnable sg = false
  ports : ∀ p, (t.port p).pendingSettings = none ∧ (t.port p).queue = TxQueue.empty ∧ (t.port p).lane = none ∧
    (t.port p).snapshot = none ∧ ∀ k, (t.port p).counters.get k = 0#32
  segs : ∀ sg, (t.seg sg).lastNumber = 0#16 ∧ t.slotRecord sg = none ∧ ∀ k, (t.seg sg).counters.get k = 0#32
  alert : t.alert = ⟨.quiet, 0#8, CauseSet.empty, none, 0, none⟩ ∧ t.alertLane = none
  agent : t.agent.mode = .idle ∧ t.agent.input = [] ∧ t.agent.deferred = none ∧ t.agent.pendingAddress = none
  banks : t.store.bankA.body = s.store.bankA.body ∧ t.store.bankB.body = s.store.bankB.body ∧
    t.store.bankA.eraseCount = s.store.bankA.eraseCount ∧ t.store.bankB.eraseCount = s.store.bankB.eraseCount
  abandoned : t.store.state = .idle ∨ ∃ src, t.store.state = .startup src

/-- The store as a start-up load begins (R184): both banks assessed, the newest chosen. -/
def Store.starting (st : Store) : Store :=
  ⟨st.bankA.assess, st.bankB.assess, .startup (Store.newest ⟨st.bankA.assess, st.bankB.assess, .idle⟩)⟩

/-- `t` is `s` after a WARM reset (R21, R42, R85, R118, R148, R170, R184, R187). -/
structure State.WarmResetOf (s t : State) : Prop where
  cause : t.resetCause = .warm
  kept : t.timeBase = s.timeBase ∧ t.subMicro = s.subMicro ∧ t.rules = s.rules ∧ t.pending = s.pending ∧ t.now = s.now ∧
    t.clockRunning = s.clockRunning ∧ t.supply = s.supply ∧ t.pinHeld = s.pinHeld ∧ t.freeCount = s.freeCount
  pool : t.pool = s.pool.afresh s.pool.watermark
  holders : t.holds = []
  stopped : ∀ p, (t.port p).rx = Receiver.fresh .off ∧ (t.port p).tx.state = .off
  ports : ∀ p, t.port p =
    { s.port p with
      pendingSettings := none
      rx := (t.port p).rx
      tx := (t.port p).tx
      queue := TxQueue.empty
      lane := none
      guardFrom := none
      counters := (s.port p).counters.bumpIf (s.port p).tx.state.isSending .aborted }
  segs : ∀ sg, t.seg sg =
    { s.seg sg with
      slot := Slot.forRole (s.segSettings sg).role
      counters := if (s.seg sg).slot.openRecord.isSome then (s.seg sg).counters.bump .cancelled else (s.seg sg).counters }
  alert : t.alert = ⟨.quiet, s.alert.sequence, s.alert.pendingCauses, none, 0, none⟩ ∧ t.alertLane = none
  agent : t.agent = ⟨.idle, [], none, none, s.agent.settings, s.agent.nextReply⟩
  store : t.store = s.store.starting

/-! ### Safe steps -/

/-- Every waiting command is well formed. -/
abbrev State.pendingWellFormed (s : State) : Prop := ∀ c ∈ s.pending, c.wellFormed = true

/-- The step answers a next state. -/
def State.stepsOn (s : State) : Prop := ∃ t, step s = .next t

end Sys2Proof.Machine
end

