-- ==== Sys2Proof/Certificates/Slice0/Obligations.lean ====
section
/-! DEFINITION. The statements about the FG416 for the provers. Each is about one command (or one shared operation of an event)
over every state that meets its hypotheses, or about every step. Where a command ends with what may follow within its event,
the statement gives the state `u` before that and says that the command answers `u.followUp`, which starts transmissions and
makes pending records active and does nothing else (`State.StartsFrom`). -/

section

open Sys2Proof Sys2Proof.Machine

/-! ### The queue and the step -/

/-- A step with a command at the front of the queue is that command's effect on the state with the queue's rest. -/
def Obligations.StepRunsFrontCommand : Prop :=
  ∀ (c : Instr) (rest : List Instr) (s : State), s.pending = c :: rest → step s = exec c { s with pending := rest }

/-- With nothing waiting (model's choice, log 1 and log 5): an event of the part's own that is due is taken, one of several by a
free value, and with none due one fine unit of 1/288 microsecond passes (log 2), of which 288 count the time base by 1 outside
a reset (R22), and which does nothing while CLKIN stops (R194). -/
def Obligations.EmptyQueueTakesDueEventOrTicks : Prop :=
  ∀ s : State, s.pending = [] →
    (s.dueEvents = [] →
      step s = .next (if s.clockRunning = true then
        { s with
          now := s.now + 1
          subMicro :=
            if s.supply = .ok ∧ s.pinHeld = false then (if s.subMicro + 1 < 288 then s.subMicro + 1 else 0) else s.subMicro
          timeBase :=
            if s.supply = .ok ∧ s.pinHeld = false ∧ 288 ≤ s.subMicro + 1 then s.timeBase + 1#32 else s.timeBase } else s)) ∧
    (∀ c, s.dueEvents = [c] → step s = exec c s) ∧
    ∀ c d others, s.dueEvents = c :: d :: others →
      ∃ e ∈ s.dueEvents, step s = exec e { s with freeCount := s.freeCount + 1 }

/-- The part's own timed events are due when CLKIN runs and their time has passed: the gap timer after the gap threshold times
the character time (R11), the break test after one character time (R9), the send end after the frame's characters (R13), the
slot timers and the repeat timer at their due instants (R91, R164). The agent's taking of the command at the head of its input
queue is due while it is IDLE, as the row of that command, and no other management row is (R121). -/
def Obligations.TimedEventsAreDueAtTheirTimes : Prop :=
  ∀ s : State, s.clockRunning = true →
    (∀ p, Instr.gapTimerExpiry p ∈ s.dueEvents ↔
      ∃ t, (s.port p).rx.gapStart = some t ∧ t + (s.port p).settings.gapHalf * (s.port p).settings.characterFine / 2 ≤ s.now) ∧
    (∀ p, Instr.breakDeclared p ∈ s.dueEvents ↔
      ∃ h, (s.port p).rx.held = some h ∧
        h.since + (s.port p).settings.characterFine ≤ s.now) ∧
    (∀ p, Instr.sendEnd p ∈ s.dueEvents ↔
      ∃ cur since, (s.port p).tx.state = .sending cur since ∧
        since + (s.currentBytes p cur).length * (s.port p).settings.characterFine ≤ s.now) ∧
    (∀ sg, Instr.responseTimerExpiry sg ∈ s.dueEvents ↔ ∃ r due, (s.seg sg).slot = .awaiting r due ∧ due ≤ s.now) ∧
    (∀ sg, Instr.lapseTimerExpiry sg ∈ s.dueEvents ↔ ∃ r due, (s.seg sg).slot = .lapsed r due ∧ due ≤ s.now) ∧
    (∀ sg, Instr.settleTimerExpiry sg ∈ s.dueEvents ↔ ∃ due, (s.seg sg).slot = .settling due ∧ due ≤ s.now) ∧
    (∀ sg, Instr.turnaroundGuardExpiry sg false ∈ s.dueEvents ↔
      (∀ cur since, (s.port (.seg sg)).tx.state ≠ .sending cur since) ∧
        ∃ t, (s.port (.seg sg)).guardFrom = some t ∧
          t + Config.finePerMicro * (s.port (.seg sg)).settings.guardMicros ≤ s.now) ∧
    (Instr.repeatTimerExpiry ∈ s.dueEvents ↔
      s.alert.state = .outstanding ∧ ∃ due, s.alert.repeatDue = some due ∧ due ≤ s.now) ∧
    ∀ rq : Request, rq.row ∈ s.dueEvents ↔
      s.agent.mode = .idle ∧ ∃ e rest, s.agent.input = e :: rest ∧ (s.requestOf e).row = rq.row

/-- Every well-formed command completes and leaves the queue as it is; a COMMIT_COMPLETION that names a cell outside a bank's
body faults. -/
def Obligations.WellFormedCommandsComplete : Prop :=
  ∀ (c : Instr) (s : State),
    (c.wellFormed = true → ∃ t, exec c s = .next t ∧ t.pending = s.pending) ∧
      (c.wellFormed = false → exec c s = .fault .noSuchCell)

/-- CLKIN_STOPS and CLKIN_RETURNS change whether the clock runs and nothing else; while it stops, no other event of the part
changes anything (R194). -/
def Obligations.StoppedClockStopsThePart : Prop :=
  ∀ s : State,
    exec .clkinStops s = .next { s with clockRunning := false } ∧
    exec .clkinReturns s = .next { s with clockRunning := true } ∧
    (s.clockRunning = false →
      (∀ c, isOutside c = false → c.wellFormed = true → exec c s = .next s) ∧ (s.pending = [] → step s = .next s))

/-! ### Resets -/

/-- POWER, SUPPLY and PIN resets wipe the part and hold it, and abandon a store operation with the banks as it leaves them (R180,
R183); a fall of VDD below 1.2 V leaves the banks alone (log 16). The rule table is empty and the store IDLE while the part is
held: the model's choice, log 12 (R61 says only that the earlier contents are lost). A SUPPLY reset is not given to a part
held in a POWER reset, nor any but POWER to a part without supply; it is given once the monitor has let the part go, also while
RSTN still holds it since power-up (the model's reading, log 22). -/
def Obligations.ColdKindsWipeThePart : Prop :=
  ∀ s : State,
    (∃ t, exec .powerReset s = .next t ∧ s.ColdResetOf t .power ∧ t.supply = .heldPower ∧ t.pinHeld = false ∧
      t.store = { s.store with state := .idle } ∧ t.clockRunning = s.clockRunning) ∧
    (s.supply = .ok ∨ s.supply = .heldSupply →
      ∃ t, exec .supplyReset s = .next t ∧ s.ColdResetOf t .supply ∧ t.supply = .heldSupply ∧ t.pinHeld = s.pinHeld ∧
        t.store = { s.store with state := .idle } ∧ t.clockRunning = s.clockRunning) ∧
    (s.supply = .heldPower ∨ s.supply = .lost → exec .supplyReset s = .next s) ∧
    (s.supply ≠ .lost →
      ∃ t, exec .pinReset s = .next t ∧ s.ColdResetOf t .pin ∧ t.supply = s.supply ∧ t.pinHeld = true ∧
        t.store = { s.store with state := .idle } ∧ t.clockRunning = s.clockRunning) ∧
    (s.supply = .lost → exec .pinReset s = .next s) ∧
    ∃ t, exec .vddFallsBelow1V2 s = .next t ∧ t.supply = .lost ∧ t.pinHeld = false ∧ t.pool = Pool.blank ∧ t.holds = [] ∧
      t.rules = emptyTable ∧ t.store = { s.store with state := .idle } ∧ (∀ p, (t.port p).tx.state = .off) ∧
      t.clockRunning = s.clockRunning

/-- When the last reset condition goes, the start-up load begins at once: both banks are assessed by their stored check and
their fields, and the newest valid one is chosen (R172, R184, R192, R193). While the other condition lasts, nothing begins. A release
with nothing to release changes nothing (the model's choice, log 22 and log 3). -/
def Obligations.ReleaseBeginsTheStartupLoad : Prop :=
  ∀ s : State,
    (s.supply = .heldPower ∨ s.supply = .heldSupply →
      exec .supplyRelease s = .next (if s.pinHeld = true then { s with supply := .ok }
        else { s with supply := .ok, store := s.store.starting })) ∧
    (s.supply = .ok ∨ s.supply = .lost → exec .supplyRelease s = .next s) ∧
    (s.pinHeld = true →
      exec .pinResetEnd s = .next (if s.supply = .ok then { s with pinHeld := false, store := s.store.starting }
        else { s with pinHeld := false })) ∧
    (s.pinHeld = false → exec .pinResetEnd s = .next s) ∧
    ∀ b : Bank, b.assess = { b with valid := b.assess.valid } ∧
      (b.assess.valid = true ↔
        numberOf (b.body.readBytes 3164 4) =
            (Config.integrityBase + ((b.body.readBytes 4 3160).map (·.toNat)).sum) % 4294967296 ∧
          ∃ pr, profile? (b.body.readBytes 8 3156) = some pr)

/-- A start-up load's completion applies the chosen profile, the factory profile where no bank was valid: rule table with hits
0, agent settings, cause RESTARTED with the first alert, every port up with its record, every slot FREE or out of use, the
store IDLE (R117, R169, R185). -/
def Obligations.StartupLoadAppliesTheProfile : Prop :=
  ∀ (s : State) (src : Option BankId) (pr : Profile), s.clockRunning = true → s.store.state = .startup src →
    ((src = none ∧ pr = factoryProfile) ∨ ∃ id, src = some id ∧ (s.store.bank id).storedProfile? = some pr) →
    ∃ u a : State, exec .startupLoadCompletion s = .next u.followUp ∧ u.StartsFrom u.followUp ∧
      a = State.alerted
        { s with
          rules := pr.rules.map fun r => r.map fun r => ⟨r, 0#32⟩
          agent := { s.agent with settings := pr.agent, pendingAddress := none } } [.restarted] ∧
      u = { a with ports := u.ports, segs := u.segs, store := { s.store with state := .idle } } ∧
      (∀ p, u.port p =
        { s.port p with
          enabled := (pr.ports.get p).enabled
          settings := (pr.ports.get p).settings
          pendingSettings := none
          rx := Receiver.fresh (if (pr.ports.get p).enabled then .idle else .off)
          tx := Transmitter.fresh (if (pr.ports.get p).enabled then .idle else .off)
          guardFrom := none }) ∧
      ∀ sg, u.seg sg =
        { s.seg sg with slot := if (pr.ports.get (.seg sg)).settings.role = .field then .free else .outOfUse }

/-! ### Characters and the gap -/

/-- A character that arrives on an IDLE receiver with a buffer free: the head of the free list is reserved with count 1, the
receiver goes ASSEMBLING at the leading edge's time, and an AWAITING slot goes RECEIVING (R24, R40, R95). -/
def Obligations.ArrivalReservesABuffer : Prop :=
  ∀ (s : State) (p : Port) (b : Nat) (rest : List Nat), s.LineOpen p → (s.port p).rx.state = .idle → s.pool.free = b :: rest →
    ∃ segs : PerSeg SegState,
      exec (.characterArrival p) s = .next
        { s with
          pool := { s.pool with free := rest, refs := s.pool.refs.set b 1, watermark := min s.pool.watermark rest.length }
          ports := s.ports.set p
            { s.port p with
              rx := ⟨.assembling ⟨b, 0, ErrorSet.empty, s.stampAt (s.now - (s.port p).settings.bitFine / 2)⟩, none, false,
                none⟩ }
          segs := segs } ∧
      ∀ sg, segs.get sg = { s.seg sg with slot := if p = .seg sg then (s.seg sg).slot.heard s.now else (s.seg sg).slot }

/-- A character that arrives on an IDLE receiver with no buffer free: DISCARDING with the gap timer started, NOBUF counted, a
NOBUF snapshot offered, causes SNAPSHOT (where the snapshot was EMPTY) and POOL raised, the slot told (R11, R25, R95). -/
def Obligations.ArrivalWithoutABufferIsNobuf : Prop :=
  ∀ (s : State) (p : Port), s.LineOpen p → (s.port p).rx.state = .idle → s.pool.free = [] →
    ∃ (segs : PerSeg SegState) (u : State),
      exec (.characterArrival p) s = .next u.followUp ∧ u.StartsFrom u.followUp ∧
      (∀ sg, segs.get sg = { s.seg sg with slot := if p = .seg sg then (s.seg sg).slot.heard s.now else (s.seg sg).slot }) ∧
      u = State.alerted
        { s with
          ports := s.ports.set p
            { s.port p with
              rx := ⟨.discarding .refused, none, false, some s.now⟩
              counters := (s.port p).counters.bump .nobuf
              snapshot := snapshotAfter (s.port p).snapshot .nobuf (s.stampAt (s.now - (s.port p).settings.bitFine / 2)) 0
                [] }
          segs := segs } (s.snapshotCause p ++ [.pool])

/-- An arrival on a receiver that is not IDLE reserves nothing: in ASSEMBLING and DISCARDING it stops the gap timer, in OFF and
MUTED it has no effect (R8, R11); nor has it where a held character or a break holds the line (model's choice, log 29). -/
def Obligations.ArrivalOutsideIdleReservesNothing : Prop :=
  ∀ (s : State) (p : Port), s.clockRunning = true →
    (s.LineOpen p → (s.port p).rx.state = .off ∨ (s.port p).rx.state = .muted →
      exec (.characterArrival p) s = .next s) ∧
    (s.LineOpen p → (s.port p).rx.state.takesCharacters = true →
      exec (.characterArrival p) s = .next
        { s with ports := s.ports.set p { s.port p with rx := { (s.port p).rx with gapStart := none } } }) ∧
    ((s.port p).rx.held ≠ none ∨ (s.port p).rx.lineLow = true → exec (.characterArrival p) s = .next s)

/-- A received character that is no zero of a break test. In ASSEMBLING below 256 bytes: its byte is stored at the frame's
length, its parity and framing faults join the error set, its end is the frame's end and starts the gap timer and a segment's
guard (R8, R11, R15, R23, R26); every other byte of the pool reads as before. The 257th is not stored: OVERLENGTH joins the
error set and the receiver goes DISCARDING with the buffer (R27); that its own parity and framing faults do not join is the
model's reading (log 36). In DISCARDING a character is thrown away; it starts the gap timer at its end and moves an over-length
frame's end. In OFF, IDLE and MUTED no character is received (R10, R12; in these states, and over a held character or a line held
low, the command changes nothing: the model's choice, log 29, log 30). Nor does anything happen at a held character's release or
a break with none held, or at the gap timer's expiry while it does not run, nor at any of the three in OFF, IDLE or MUTED (the
model's choice, log 3). -/
def Obligations.CharacterIsStoredOrThrownAway : Prop :=
  (∀ (s : State) (p : Port) (f : Assembly) (data : Byte) (parityBit stopBit : Bool),
     s.LineOpen p → (s.port p).rx.state = .assembling f → f.length < 256 → ¬(data = 0#8 ∧ stopBit = false) →
     Memory.wf s.pool.ram →
     ∃ ram, exec (.characterReceived p data parityBit stopBit) s = .next
         { s with
           pool := { s.pool with ram := ram }
           ports := s.ports.set p
             { s.port p with
               rx := ⟨.assembling
                 { f with
                   length := f.length + 1
                   errors :=
                     { f.errors with
                       parity := f.errors.parity || parityFault (s.port p).settings.parity data parityBit
                       framing := f.errors.framing || !stopBit }
                   endStamp := s.stampAt (s.characterEnd (s.port p).settings) }, none, false,
                 some (s.characterEnd (s.port p).settings)⟩
               guardFrom := guardAfter p (s.port p).guardFrom (s.characterEnd (s.port p).settings) } } ∧
       Memory.wf ram ∧ ram.read (256 * f.buffer + f.length) = data ∧
       ∀ a, a ≠ 256 * f.buffer + f.length → ram.read a = s.pool.ram.read a) ∧
  (∀ (s : State) (p : Port) (f : Assembly) (data : Byte) (parityBit stopBit : Bool) (d : Discard),
     s.LineOpen p → ¬(data = 0#8 ∧ stopBit = false) →
     ((s.port p).rx.state = .assembling f ∧ 256 ≤ f.length ∧
         d = .overlength
           { f with
             errors := { f.errors with overlength := true }
             endStamp := s.stampAt (s.characterEnd (s.port p).settings) } ∨
       (s.port p).rx.state = .discarding (.overlength f) ∧
         d = .overlength { f with endStamp := s.stampAt (s.characterEnd (s.port p).settings) } ∨
       (s.port p).rx.state = .discarding .refused ∧ d = .refused ∨
       (s.port p).rx.state = .discarding .broken ∧ d = .broken) →
     exec (.characterReceived p data parityBit stopBit) s = .next
       { s with
         ports := s.ports.set p
           { s.port p with
             rx := ⟨.discarding d, none, false, some (s.characterEnd (s.port p).settings)⟩
             guardFrom := guardAfter p (s.port p).guardFrom (s.characterEnd (s.port p).settings) } }) ∧
  ∀ (s : State) (p : Port), s.clockRunning = true →
    ((s.port p).rx.held ≠ none ∨ (s.port p).rx.lineLow = true →
      ∀ data parityBit stopBit, exec (.characterReceived p data parityBit stopBit) s = .next s) ∧
    ((s.port p).rx.held = none → exec (.heldCharacterReleased p) s = .next s ∧ exec (.breakDeclared p) s = .next s) ∧
    ((s.port p).rx.gapStart = none → exec (.gapTimerExpiry p) s = .next s) ∧
    ((s.port p).rx.state ∈ [RxState.off, .idle, .muted] →
      (∀ data parityBit stopBit, exec (.characterReceived p data parityBit stopBit) s = .next s) ∧
        exec (.heldCharacterReleased p) s = .next s ∧ exec (.breakDeclared p) s = .next s ∧
        exec (.gapTimerExpiry p) s = .next s)

/-- A character of eight zero bits with a low stop bit is held for the break test with the gap timer stopped, and nothing is
stored yet (R8, R9). When the line returns high before the break time, it is received as a zero with a framing fault that ends
now (its parity fault is kept, model's reading, log 15); the 257th, and any in DISCARDING, is not stored (R27). That a released
257th adds OVERLENGTH alone, not its framing or parity fault, is the model's reading (log 36). -/
def Obligations.ZeroCharacterIsHeldThenReceived : Prop :=
  (∀ (s : State) (p : Port) (parityBit : Bool), s.LineOpen p → (s.port p).rx.state.takesCharacters = true →
     exec (.characterReceived p 0#8 parityBit false) s = .next
       { s with
         ports := s.ports.set p
           { s.port p with
             rx :=
               { (s.port p).rx with
                 held := some ⟨parityFault (s.port p).settings.parity 0#8 parityBit, s.now⟩
                 gapStart := none } } }) ∧
  (∀ (s : State) (p : Port) (h : HeldChar) (f : Assembly), s.clockRunning = true → (s.port p).rx.held = some h →
     ((s.port p).rx.state = .assembling f → f.length < 256 →
       exec (.heldCharacterReleased p) s = .next
         { s with
           pool := { s.pool with ram := s.pool.ram.write (256 * f.buffer + f.length) 0#8 }
           ports := s.ports.set p
             { s.port p with
               rx := ⟨.assembling
                 { f with
                   length := f.length + 1
                   errors := { f.errors with parity := f.errors.parity || h.parityFault, framing := true }
                   endStamp := s.stampAt s.now }, none, false, some s.now⟩
               guardFrom := guardAfter p (s.port p).guardFrom s.now } }) ∧
     ∀ d : Discard,
       ((s.port p).rx.state = .assembling f ∧ 256 ≤ f.length ∧
           d = .overlength { f with errors := { f.errors with overlength := true }, endStamp := s.stampAt s.now } ∨
         (s.port p).rx.state = .discarding (.overlength f) ∧ d = .overlength { f with endStamp := s.stampAt s.now } ∨
         (s.port p).rx.state = .discarding .refused ∧ d = .refused ∨
         (s.port p).rx.state = .discarding .broken ∧ d = .broken) →
       exec (.heldCharacterReleased p) s = .next
         { s with
           ports := s.ports.set p
             { s.port p with
               rx := ⟨.discarding d, none, false, some s.now⟩
               guardFrom := guardAfter p (s.port p).guardFrom s.now } })

/-- A declared break ends the frame in assembly with BREAK: the held zero is its last byte, or with 256 bytes there already is
not stored and OVERLENGTH joins too; the frame completes as an errored frame and its buffer is released, and the receiver goes
DISCARDING with the line still low and the gap timer stopped (R9, R11, R27, R28, R31). Where the segment's slot is RECEIVING,
the errored frame is a bad answer and fails the attempt with BADREPLY (R100, R101). A discard without a frame goes on. -/
def Obligations.BreakEndsTheFrame : Prop :=
  ∀ (s : State) (p : Port) (h : HeldChar) (f g : Assembly) (ram : Memory),
    s.clockRunning = true → (s.port p).rx.held = some h →
    ((s.port p).rx.state = .assembling f ∧ f.length < 256 ∧
        g = { f with length := f.length + 1, errors := { f.errors with brk := true }, endStamp := s.timeBase } ∧
        ram = s.pool.ram.write (256 * f.buffer + f.length) 0#8 ∨
      ((s.port p).rx.state = .assembling f ∨ (s.port p).rx.state = .discarding (.overlength f)) ∧ f.length = 256 ∧
        g = { f with errors := { f.errors with overlength := true, brk := true }, endStamp := s.timeBase } ∧
        ram = s.pool.ram →
      s.pool.lens.length = 64 → f.buffer < 64 →
      ∃ w u : State, exec (.breakDeclared p) s = .next u.followUp ∧ u.StartsFrom u.followUp ∧
        w = State.errored { s with pool := { s.pool with ram := ram } } p ⟨.discarding .broken, none, true, none⟩ f.buffer
          g.length g.errors s.timeBase ∧
        ((∀ sg, p = .seg sg → ∀ r, (s.seg sg).slot ≠ .receiving r) →
          u = State.alerted { w with pool := w.pool.drop f.buffer } (s.snapshotCause p)) ∧
        ∀ sg r b, p = .seg sg → (s.seg sg).slot = .receiving r → r.buffer = some b →
          u = State.attemptEnds { w with pool := w.pool.drop f.buffer } sg { r with lastResult := .badReply } .badreplies b
            (s.snapshotCause p)) ∧
    ∀ d, d = .refused ∨ d = .broken → (s.port p).rx.state = .discarding d →
      exec (.breakDeclared p) s = .next
        { s with ports := s.ports.set p { s.port p with rx := ⟨.discarding d, none, true, none⟩ } }

/-- When the line returns high after a break, the gap timer starts (R11); where no break holds the line, nothing happens (the
model's choice, log 3). A gap timer's expiry in DISCARDING returns the receiver to IDLE with no frame (R11, R25). After a
refused reservation a RECEIVING slot's attempt fails with BADREPLY (R35, R100); any other slot is left alone. The event ends
with the formation test (`State.alerted []`, the model's reading, log 20). -/
def Obligations.GapTimerEndsADiscard : Prop :=
  (∀ (s : State) (p : Port), s.clockRunning = true →
     ((s.port p).rx.lineLow = true →
       exec (.lineReturnsHighAfterBreak p) s = .next
         { s with
           ports := s.ports.set p { s.port p with rx := { (s.port p).rx with lineLow := false, gapStart := some s.now } } }) ∧
     ((s.port p).rx.lineLow = false → exec (.lineReturnsHighAfterBreak p) s = .next s)) ∧
  (∀ (s v : State) (p : Port), s.clockRunning = true → (s.port p).rx.gapStart ≠ none →
     v = { s with ports := s.ports.set p { s.port p with rx := Receiver.fresh .idle } } →
     ((s.port p).rx.state = .discarding .broken ∨
         (s.port p).rx.state = .discarding .refused ∧ (∀ sg, p = .seg sg → ∀ r, (s.seg sg).slot ≠ .receiving r) →
       ∃ u : State, exec (.gapTimerExpiry p) s = .next u.followUp ∧ u.StartsFrom u.followUp ∧ u = v.alerted []) ∧
     ∀ sg r b, p = .seg sg → (s.port p).rx.state = .discarding .refused → (s.seg sg).slot = .receiving r → r.buffer = some b →
       ∃ u : State, exec (.gapTimerExpiry p) s = .next u.followUp ∧ u.StartsFrom u.followUp ∧
         u = v.attemptEnds sg { r with lastResult := .badReply } .badreplies b [])
/-! ### Completed frames -/

/-- A clean frame that reaches the classifier and matches no valid entry is counted UNMATCHED and its buffer released (R48); one
whose first match is a DROP entry counts a hit and its buffer is released (R49, R65). The event ends with the formation test
(`State.alerted []`, the model's reading, log 20). -/
def Obligations.UnmatchedAndDroppedFramesAreReleased : Prop :=
  ∀ (s v : State) (p : Port) (f : Assembly), s.Classified p f → v = s.completed p f →
    (firstMatch s.rules p (s.assembled f) 0 = none →
      ∃ u : State, exec (.gapTimerExpiry p) s = .next u.followUp ∧ u.StartsFrom u.followUp ∧
        u = State.alerted
          { v with
            pool := v.pool.drop f.buffer
            ports := v.ports.set p { v.port p with counters := (v.port p).counters.bump .unmatched } } []) ∧
    ∀ i e, firstMatch s.rules p (s.assembled f) 0 = some (i, e) → e.rule.action = .drop →
      ∃ u : State, exec (.gapTimerExpiry p) s = .next u.followUp ∧ u.StartsFrom u.followUp ∧
        u = State.alerted
          { v with
            pool := v.pool.drop f.buffer
            rules := s.rules.set i (some { e with hits := e.hits.bump }) } []

/-- A frame matches an entry when its source is in the source set, its length within the bounds, and every byte test holds; the
matching entry is the valid one of lowest index that the frame matches (R45, R46, R47). -/
def Obligations.FirstMatchIsTheLowestIndex : Prop :=
  ∀ (table : List (Option Entry)) (src : Port) (frame : List Byte),
    (∀ r : Rule, r.matchesFrame src frame = true ↔
      r.sources.get src = true ∧ r.minLength ≤ frame.length ∧ frame.length ≤ r.maxLength ∧
        ∀ t ∈ r.tests, ∃ b, frame[t.offset]? = some b ∧ b &&& t.mask = t.value &&& t.mask) ∧
    (∀ i e, firstMatch table src frame 0 = some (i, e) ↔
      table[i]? = some (some e) ∧ e.rule.matchesFrame src frame = true ∧
        ∀ j < i, ∀ e', table[j]? = some (some e') → e'.rule.matchesFrame src frame = false) ∧
    (firstMatch table src frame 0 = none ↔ ∀ e, some e ∈ table → e.rule.matchesFrame src frame = false)

/-- A FORWARD entry's frame is offered to each target but its source: an accepting queue gets a PLAIN descriptor at the tail of
the part of the decision's priority; a target that is off counts MISROUTE on the source, a full one QFULL on itself; the
buffer's count becomes the number of descriptors, and at 0 it is released (R66, R67, R73). The event ends with the formation
test (`State.alerted []`, the model's reading, log 20). -/
def Obligations.FrameIsForwarded : Prop :=
  ∀ (s v : State) (p : Port) (f : Assembly) (i : Nat) (e : Entry) (targets : PortSet) (pr : Priority),
    s.Classified p f → v = s.completed p f → firstMatch s.rules p (s.assembled f) 0 = some (i, e) →
    e.rule.action = .forward targets pr → s.pool.refCount f.buffer = 1 → s.pool.refs.length = 64 →
    ∃ w u : State, exec (.gapTimerExpiry p) s = .next u.followUp ∧ u.StartsFrom u.followUp ∧ u = w.alerted [] ∧
      w = { v with
        pool := w.pool
        ports := w.ports
        rules := s.rules.set i (some { e with hits := e.hits.bump }) } ∧
      (∀ q, (w.port q) =
        { v.port q with
          queue :=
            if targets.get q = true ∧ q ≠ p ∧ v.accepts q then (v.port q).queue.push ⟨f.buffer, .plain, pr, s.timeBase⟩
            else (v.port q).queue
          counters :=
            if q = p then
              (fun c => c.bump .misroute)^[(Port.list.filter fun q =>
                targets.get q && decide (q ≠ p) && (v.port q).isOff).length] (v.port p).counters
            else
              (v.port q).counters.bumpIf
                (targets.get q && !(v.port q).isOff && decide (Config.queueLimit ≤ (v.port q).queue.depth)) .qfull }) ∧
      ∃ n, n = (Port.list.filter fun q => decide (targets.get q = true ∧ q ≠ p ∧ v.accepts q)).length ∧
        w.pool =
          { v.pool with
            refs := v.pool.refs.set f.buffer n
            free := if n = 0 then v.pool.free ++ [f.buffer] else v.pool.free }

/-- An EXCHANGE entry's frame, by the route check (R68): passed and with room on the target's queue, it becomes an EXCHANGE
descriptor there and keeps its buffer (R69); with the queue full, QFULL is counted on the target; with the check failed,
MISROUTE on the source. A refusal releases the buffer and then asks for the flagged notice, with attempts and number 0 (R70).
The event ends with the formation test (`State.alerted []`, the model's reading, log 20). -/
def Obligations.ExchangeRequestIsQueuedOrRefused : Prop :=
  ∀ (s v : State) (p : Port) (f : Assembly) (i : Nat) (e : Entry) (target : Seg) (pr : Priority) (retries : Nat)
    (notice : Bool),
    s.Classified p f → firstMatch s.rules p (s.assembled f) 0 = some (i, e) →
    e.rule.action = .exchange target pr retries notice →
    v = { s.completed p f with rules := s.rules.set i (some { e with hits := e.hits.bump }) } →
    ∃ u : State, exec (.gapTimerExpiry p) s = .next u.followUp ∧ u.StartsFrom u.followUp ∧
      ((s.port p).settings.role = .uplink ∧ (s.port (.seg target)).enabled = true ∧
          (s.port (.seg target)).settings.role = .field ∧ p ≠ .seg target →
        (s.accepts (.seg target) →
          u = State.alerted
            { v with
              ports := v.ports.set (.seg target)
                { v.port (.seg target) with
                  queue := (v.port (.seg target)).queue.push
                    ⟨f.buffer, .exchange ⟨p, retries, notice, i⟩, pr, s.timeBase⟩ } } []) ∧
        (¬s.accepts (.seg target) →
          u = State.alerted
            (State.noticeIf
              { v with
                pool := v.pool.drop f.buffer
                ports := v.ports.set (.seg target)
                  { v.port (.seg target) with counters := (v.port (.seg target)).counters.bump .qfull } }
              notice ⟨p, target, s.pool.ram.read (256 * f.buffer), .queueFull, 0, 0#16, i⟩) [])) ∧
      (¬((s.port p).settings.role = .uplink ∧ (s.port (.seg target)).enabled = true ∧
          (s.port (.seg target)).settings.role = .field ∧ p ≠ .seg target) →
        u = State.alerted
          (State.noticeIf
            { v with
              pool := v.pool.drop f.buffer
              ports := v.ports.set p { v.port p with counters := (v.port p).counters.bump .misroute } }
            notice ⟨p, target, s.pool.ram.read (256 * f.buffer), .noRoute, 0, 0#16, i⟩) [])

/-- A clean management frame joins the tail of the agent's input queue with its source and that port's check mode (R33, R119,
R120); with 4 entries there it is counted AGENTOVF and its buffer released. On the trunk a STALLED alert is placed again with
repeat count 0 (R165). The event ends with the formation test (`State.alerted []`, the model's reading, log 20). -/
def Obligations.ManagementFrameJoinsTheInputQueue : Prop :=
  ∀ (s v a : State) (p : Port) (f : Assembly), s.Completing p f → s.Clean p f →
    (p = .trunk ∨ ∃ sg, p = .seg sg ∧ (s.port p).settings.role = .uplink ∧ (s.port p).settings.mgmt = true ∧
      (s.seg sg).slot = .outOfUse) →
    5 ≤ f.length → (s.assembled f).head? = some s.agent.settings.address → v = s.completed p f →
    a = (if p = .trunk ∧ s.alert.state = .stalled then
      { v with
        alert := { s.alert with state := .outstanding, repeatCount := 0 }
        alertLane := (s.alert.current.map (·.frame)).orElse fun _ => s.alertLane } else v) →
    ∃ u : State, exec (.gapTimerExpiry p) s = .next u.followUp ∧ u.StartsFrom u.followUp ∧
      (s.agent.input.length < 4 →
        u = State.alerted
          { a with
            agent := { s.agent with input := s.agent.input ++ [⟨f.buffer, p, (s.port p).settings.checkMode⟩] } } []) ∧
      (4 ≤ s.agent.input.length →
        u = State.alerted
          { a with
            pool := v.pool.drop f.buffer
            ports := v.ports.set p { v.port p with counters := (v.port p).counters.bump .agentovf } } [])

/-- An errored frame, by its characters' faults or a failed check: each kind is counted once, a snapshot of the first kind is
offered with the frame's end, length and first eight bytes, and the buffer is released (R29, R31, R155 to R157), where no
slot is RECEIVING it. -/
def Obligations.ErroredFrameIsCountedAndReleased : Prop :=
  ∀ (s : State) (p : Port) (f : Assembly), s.Completing p f → s.errorsOf p f ≠ ErrorSet.empty →
    (∀ sg, p = .seg sg → ∀ r, (s.seg sg).slot ≠ .receiving r) →
    ∃ w u : State, exec (.gapTimerExpiry p) s = .next u.followUp ∧ u.StartsFrom u.followUp ∧
      w = s.errored p (Receiver.fresh .idle) f.buffer f.length (s.errorsOf p f) f.endStamp ∧
      u = State.alerted { w with pool := w.pool.drop f.buffer } (s.snapshotCause p)

/-! ### Exchanges -/

/-- A clean frame from the station. Completing in RECEIVING, it ends the exchange REPLIED: REPLIED is counted, the answer goes as
a REPLY at the exchange's priority to the origin's queue, or is dropped as ORPHAN on the segment (queue off) or QFULL on the
origin (queue full), the request's buffer is released and the slot is FREE (R98, R99). Completing in LAPSED, it is a late
answer: LATE is counted on the segment and its buffer released, and it is neither classified nor passed on (R104). The event
ends with the formation test (`State.alerted []`, the model's reading, log 20). -/
def Obligations.AnswerEndsTheExchangeOrIsLate : Prop :=
  (∀ (s v : State) (sg : Seg) (f : Assembly) (r : ExchangeRecord) (b : Nat),
     s.Completing (.seg sg) f → s.Clean (.seg sg) f → (s.seg sg).slot = .receiving r → r.buffer = some b →
     (s.assembled f).head? = some r.station →
     v = { s.completed (.seg sg) f with
       segs := s.segs.set sg { s.seg sg with slot := .free, counters := (s.seg sg).counters.bump .replied } } →
     ∃ u : State, exec (.gapTimerExpiry (.seg sg)) s = .next u.followUp ∧ u.StartsFrom u.followUp ∧
       (s.accepts r.origin →
         u = State.alerted
           { v with
             pool := v.pool.drop b
             ports := v.ports.set r.origin
               { v.port r.origin with
                 queue := (v.port r.origin).queue.push ⟨f.buffer, .reply, r.priority, s.timeBase⟩ } } []) ∧
       ((s.port r.origin).isOff = true →
         u = State.alerted
           { v with
             pool := (v.pool.drop f.buffer).drop b
             ports := v.ports.set (.seg sg)
               { v.port (.seg sg) with counters := (v.port (.seg sg)).counters.bump .orphan } } []) ∧
       ((s.port r.origin).isOff = false → 20 ≤ (s.port r.origin).queue.depth →
         u = State.alerted
           { v with
             pool := (v.pool.drop f.buffer).drop b
             ports := v.ports.set r.origin
               { v.port r.origin with counters := (v.port r.origin).counters.bump .qfull } } [])) ∧
  (∀ (s v : State) (sg : Seg) (f : Assembly) (r : ExchangeRecord) (due : Nat),
     s.Completing (.seg sg) f → s.Clean (.seg sg) f → (s.seg sg).slot = .lapsed r due →
     (s.assembled f).head? = some r.station → v = s.completed (.seg sg) f →
     ∃ u : State, exec (.gapTimerExpiry (.seg sg)) s = .next u.followUp ∧ u.StartsFrom u.followUp ∧
       u = State.alerted
         { v with
           pool := v.pool.drop f.buffer
           segs := s.segs.set sg { s.seg sg with counters := (s.seg sg).counters.bump .late } } [])

/-- In RECEIVING, a clean frame from another station and an errored frame that complete at the gap timer's expiry are released and
fail the attempt with BADREPLY (R100), which is then retried or ends the exchange FAILED (R102, R103). A frame that a break
completes while the slot is RECEIVING is in BreakEndsTheFrame. -/
def Obligations.BadAnswerFailsTheAttempt : Prop :=
  ∀ (s v w : State) (sg : Seg) (f : Assembly) (r : ExchangeRecord) (b : Nat),
    s.Completing (.seg sg) f → (s.seg sg).slot = .receiving r → r.buffer = some b → v = s.completed (.seg sg) f →
    w = s.errored (.seg sg) (Receiver.fresh .idle) f.buffer f.length (s.errorsOf (.seg sg) f) f.endStamp →
    (s.Clean (.seg sg) f → (s.assembled f).head? ≠ some r.station →
      ∃ u : State, exec (.gapTimerExpiry (.seg sg)) s = .next u.followUp ∧ u.StartsFrom u.followUp ∧
        u = State.attemptEnds { v with pool := v.pool.drop f.buffer } sg { r with lastResult := .badReply } .badreplies b []) ∧
    (s.errorsOf (.seg sg) f ≠ ErrorSet.empty →
      ∃ u : State, exec (.gapTimerExpiry (.seg sg)) s = .next u.followUp ∧ u.StartsFrom u.followUp ∧
        u = State.attemptEnds { w with pool := w.pool.drop f.buffer } sg { r with lastResult := .badReply } .badreplies b
          (s.snapshotCause (.seg sg)))

/-- The response timer's expiry in AWAITING fails the attempt with TIMEOUT (R96): TIMEOUTS is counted, remaining response time 0;
with attempts left RETRIES is counted and the slot is LAPSED with the retry pending (R102); else FAILED is counted, the
request's buffer released, the flagged notice built, cause EXCHANGE raised, the slot LAPSED (R103). In any other slot state
nothing happens (the model's choice, log 3). -/
def Obligations.ResponseExpiryFailsTheAttempt : Prop :=
  ∀ (s : State) (sg : Seg), s.clockRunning = true →
    (∀ r due b, (s.seg sg).slot = .awaiting r due → r.buffer = some b →
      ∃ u : State, exec (.responseTimerExpiry sg) s = .next u.followUp ∧ u.StartsFrom u.followUp ∧
        u = s.attemptEnds sg { r with remaining := some 0, lastResult := .timeout } .timeouts b []) ∧
    ((∀ r due, (s.seg sg).slot ≠ .awaiting r due) → exec (.responseTimerExpiry sg) s = .next s)

/-- A notice is built in a buffer of its own and queued URGENT on the origin; with no buffer free, or the origin's queue not
accepting, it is lost as NOTICELOST on the origin and keeps no buffer (R113, R114). A flagged notice is this one where the flag
asks for it, and nothing where it does not. -/
def Obligations.NoticeIsBuiltOrLost : Prop :=
  (∀ (s : State) (n : NoticeRequest), s.noticeIf true n = s.buildNotice n ∧ s.noticeIf false n = s) ∧
  ∀ (s : State) (n : NoticeRequest) (frame : List Byte),
    frame = withCheck ([s.agent.settings.address, 0x70#8, byteOf n.segment.num, n.station, n.reason.code, byteOf n.attempts]
      ++ be16 n.number.toNat ++ [byteOf n.rule]) →
    (s.pool.free = [] →
      s.buildNotice n =
        { s with
          ports := s.ports.set n.origin
            { s.port n.origin with counters := (s.port n.origin).counters.bump .noticelost } }) ∧
    ∀ b rest m, s.pool.free = b :: rest → b < 64 → s.pool.refs.length = 64 →
      m = { s.pool with
        free := rest
        refs := s.pool.refs.set b 1
        lens := s.pool.lens.set b 11
        ram := s.pool.ram.writeBytes (256 * b) frame
        watermark := min s.pool.watermark rest.length } →
      (s.accepts n.origin →
        s.buildNotice n =
          { s with
            pool := m
            ports := s.ports.set n.origin
              { s.port n.origin with
                queue := (s.port n.origin).queue.push ⟨b, .notice, .urgent, s.timeBase⟩ } }) ∧
      (¬s.accepts n.origin →
        s.buildNotice n =
          { s with
            pool := { m with free := rest ++ [b], refs := s.pool.refs.set b 0 }
            ports := s.ports.set n.origin
              { s.port n.origin with counters := (s.port n.origin).counters.bump .noticelost } })

/-- The lapse timer's expiry takes LAPSED to RESEND with a retry pending and to FREE without (R105); the settle timer's takes
SETTLING to FREE (R93); the turnaround guard's, on a segment that is not sending, ends the guard and takes a MUTED receiver to
IDLE (R12). Where the sender says that a character is arriving whose leading edge fell inside the guard, and the receiver
watches the line, the guard is held for the half bit by whose end the character's arrival comes, so that the arrival is taken
before a start of the port's own (R16; that the sender says so, and the half bit, are the model's choice, log 35). In any other
state of the slot, or while the port sends or no guard runs, nothing happens (the model's choice, log 3). -/
def Obligations.SegmentTimersExpire : Prop :=
  (∀ (s : State) (sg : Seg), s.clockRunning = true →
     (∀ r due, (s.seg sg).slot = .lapsed r due →
       ∃ u : State, exec (.lapseTimerExpiry sg) s = .next u.followUp ∧ u.StartsFrom u.followUp ∧
         u = { s with
           segs := s.segs.set sg { s.seg sg with slot := if r.retryPending = true then .resend r else .free } }) ∧
     ((∀ r due, (s.seg sg).slot ≠ .lapsed r due) → exec (.lapseTimerExpiry sg) s = .next s) ∧
     (∀ due, (s.seg sg).slot = .settling due →
       ∃ u : State, exec (.settleTimerExpiry sg) s = .next u.followUp ∧ u.StartsFrom u.followUp ∧
         u = { s with segs := s.segs.set sg { s.seg sg with slot := .free } }) ∧
     ((∀ due, (s.seg sg).slot ≠ .settling due) → exec (.settleTimerExpiry sg) s = .next s)) ∧
  (∀ (s : State) (sg : Seg) (edgeInside : Bool), s.clockRunning = true →
     (∀ t, (s.port (.seg sg)).guardFrom = some t → (∀ c n, (s.port (.seg sg)).tx.state ≠ .sending c n) →
       (edgeInside = false ∨ (s.port (.seg sg)).rx.state = .muted ∨ (s.port (.seg sg)).rx.state = .off →
         ∃ u : State, exec (.turnaroundGuardExpiry sg edgeInside) s = .next u.followUp ∧ u.StartsFrom u.followUp ∧
           u = { s with
             ports := s.ports.set (.seg sg)
               { s.port (.seg sg) with
                 guardFrom := none
                 rx := if (s.port (.seg sg)).rx.state = .muted then Receiver.fresh .idle else (s.port (.seg sg)).rx } }) ∧
       (edgeInside = true → (s.port (.seg sg)).rx.state ≠ .muted → (s.port (.seg sg)).rx.state ≠ .off →
         exec (.turnaroundGuardExpiry sg edgeInside) s = .next
           { s with
             ports := s.ports.set (.seg sg)
               { s.port (.seg sg) with guardFrom := some (t + (s.segSettings sg).bitFine / 2) } })) ∧
     ((s.port (.seg sg)).guardFrom = none ∨ (∃ c n, (s.port (.seg sg)).tx.state = .sending c n) →
       exec (.turnaroundGuardExpiry sg edgeInside) s = .next s))

/-! ### Transmission -/

/-- The arbiter's order (R78): the retry of a FIELD slot in RESEND, the reply lane of an UPLINK port, the trunk's alert lane, then
the queue; there the URGENT head, unless the aging counter has reached 4 with a NORMAL descriptor waiting, and the aging
counter counts the URGENT grants that passed a waiting NORMAL part over (R79). -/
def Obligations.ArbiterFollowsItsOrder : Prop :=
  ∀ (s : State) (p : Port),
    (∀ sg r, p = .seg sg → (s.port p).settings.role = .field → (s.seg sg).slot = .resend r → s.choice p = some (.retry r)) ∧
    ((s.port p).settings.role = .uplink → (s.port p).lane ≠ none → s.choice p = some .reply) ∧
    (p = .trunk → ((s.port p).lane = none ∨ (s.port p).settings.role = .field) → s.alertLane ≠ none →
      s.choice p = some .alert) ∧
    ((∀ sg r, p = .seg sg → (s.port p).settings.role = .field → (s.seg sg).slot ≠ .resend r) →
      ((s.port p).lane = none ∨ (s.port p).settings.role = .field) → (p ≠ .trunk ∨ s.alertLane = none) →
      ((s.port p).queue.urgent = [] → (s.port p).queue.normal = [] → s.choice p = none) ∧
      (∀ u us, (s.port p).queue.urgent = u :: us → (s.port p).queue.normal = [] →
        s.choice p = some (.take u ⟨us, [], 0⟩)) ∧
      (∀ n ns, (s.port p).queue.urgent = [] → (s.port p).queue.normal = n :: ns →
        s.choice p = some (.take n ⟨[], ns, 0⟩)) ∧
      (∀ u us n ns, (s.port p).queue.urgent = u :: us → (s.port p).queue.normal = n :: ns →
        s.choice p = some (if (s.port p).queue.aging < 4 then .take u ⟨us, n :: ns, (s.port p).queue.aging + 1⟩
          else .take n ⟨u :: us, ns, 0⟩)))

/-- A transmitter that is IDLE or WAITING and has a choice starts it when its start condition holds (R13), and waits otherwise.
The trunk's always holds (R14); a segment's when its receiver is IDLE, its guard has run out, and on a FIELD segment the slot
is FREE or RESEND (R15). The start takes the descriptor off its queue, opens an exchange with the next number (R90, R92), or
sends with no answer expected (R93), or sends the next attempt (R106). What follows within an event does this for each port in
ascending order, then makes pending records active (model's choice of order, log 21). The output pins: while a port sends, its
data output shows the bits of the frame's characters back to back and a segment's driver-enable is asserted (R7, R17);
otherwise the data output is high and the driver-enable deasserted, but for the character that a cut frame is finishing (R19,
R21, model's reading, log 25), which both follow to its end. -/
def Obligations.TransmissionStartsWhenItMay : Prop :=
  (∀ (s : State) (p : Port) (i j : Nat) (st : Settings), st = (s.port p).settings →
    (∀ cur since b, (s.port p).tx.state = .sending cur since → (s.currentBytes p cur)[i]? = some b → j < st.characterBits →
      since + (i * st.characterBits + j) * st.bitFine ≤ s.now →
      s.now < since + (i * st.characterBits + j + 1) * st.bitFine → s.txdLevel p = st.lineBit b j) ∧
    (∀ d : Drain, (∀ cur since, (s.port p).tx.state ≠ .sending cur since) → (s.port p).tx.drain = some d → d.start ≤ s.now →
      (j < st.characterBits → d.start + j * st.bitFine ≤ s.now → s.now < d.start + (j + 1) * st.bitFine →
        s.txdLevel p = st.lineBit d.byte j) ∧
      (d.start + st.characterBits * st.bitFine ≤ s.now → s.txdLevel p = true)) ∧
    ((∀ cur since, (s.port p).tx.state ≠ .sending cur since) → (s.port p).tx.drain = none → s.txdLevel p = true) ∧
    ∀ sg, p = .seg sg →
      (s.driverEnable sg = true ↔
        (∃ cur since, (s.port p).tx.state = .sending cur since) ∨
          ∃ d, (s.port p).tx.drain = some d ∧ s.now < d.start + st.characterBits * st.bitFine)) ∧
  ∀ (s : State) (p : Port),
    s.followUp = Port.list.foldl State.applyPending (Port.list.foldl State.startPort s) ∧
    (s.startCondition p = true ↔
      ∀ sg, p = .seg sg → (s.port p).rx.state = .idle ∧
        (∀ t, (s.port p).guardFrom = some t →
          t + Config.finePerMicro * (s.port p).settings.guardMicros ≤ s.now) ∧
        ((s.port p).settings.role = .uplink ∨ (s.seg sg).slot = .free ∨ ∃ r, (s.seg sg).slot = .resend r)) ∧
    ((s.port p).tx.state = .off ∨ (∃ c n, (s.port p).tx.state = .sending c n) ∨ s.choice p = none → s.startPort p = s) ∧
    ((s.port p).tx.state = .idle ∨ (s.port p).tx.state = .waiting →
      (s.choice p ≠ none → s.startCondition p = false →
        s.startPort p = { s with ports := s.ports.set p { s.port p with tx := { (s.port p).tx with state := .waiting } } }) ∧
      (s.startCondition p = true →
        (s.choice p = some .reply →
          s.startPort p = { s with ports := s.ports.set p (s.sendingPort p .reply) }) ∧
        (s.choice p = some .alert →
          s.startPort p = { s with ports := s.ports.set p (s.sendingPort p .alert) }) ∧
        (∀ sg r b, p = .seg sg → s.choice p = some (.retry r) → r.buffer = some b →
          s.startPort p =
            { s with
              pool := s.pool.addRef b
              segs := s.segs.set sg
                { s.seg sg with slot := .sendingExchange { r with attempt := r.attempt + 1, retryPending := false } }
              ports := s.ports.set p (s.sendingPort p (.retry b)) }) ∧
        ∀ d rest, s.choice p = some (.take d rest) →
          ∃ segs, s.startPort p =
              { s with ports := s.ports.set p { s.sendingPort p (.descriptor d) with queue := rest }, segs := segs } ∧
            ∀ sg, (p ≠ .seg sg ∨ (s.port p).settings.role = .uplink → segs.get sg = s.seg sg) ∧
              (p = .seg sg → (s.port p).settings.role = .field →
                ((∀ x, d.kind ≠ .exchange x) → segs.get sg = { s.seg sg with slot := .sendingNoAnswer }) ∧
                ∀ x n, d.kind = .exchange x →
                  n = (if (s.seg sg).lastNumber = 65535#16 then 1#16 else (s.seg sg).lastNumber + 1#16) →
                  segs.get sg =
                    { slot := .sendingExchange
                        ⟨n, x.origin, s.pool.ram.read (256 * d.buffer), some d.buffer, x.rule, d.priority, x.retries, x.notice,
                          1, s.timeBase, none, .none, false⟩
                      lastNumber := n
                      counters := (s.seg sg).counters.bump .exchanges })))

/-- A pending record becomes active at the port's idle point (R5): enabled, receiver and transmitter IDLE with no work, on a
FIELD segment the slot FREE, and for a role change an empty queue. Enabled stays, the record is no longer pending, and the
segment's slot comes into use or goes out of it as the role says (R6, R87). Elsewhere it waits. -/
def Obligations.PendingRecordBecomesActiveAtTheIdlePoint : Prop :=
  ∀ (s : State) (p : Port) (st : Settings), (s.port p).pendingSettings = some st →
    ((s.port p).enabled = true ∧ (s.port p).rx.state = .idle ∧ (s.port p).tx.state = .idle ∧ s.hasWork p = false ∧
        (∀ sg, p = .seg sg → (s.port p).settings.role = .uplink ∨ (s.seg sg).slot = .free) ∧
        (st.role = (s.port p).settings.role ∨ (s.port p).queue.urgent = [] ∧ (s.port p).queue.normal = []) →
      ∃ segs, s.applyPending p =
          { s with ports := s.ports.set p { s.port p with settings := st, pendingSettings := none }, segs := segs } ∧
        ∀ sg, segs.get sg =
          { s.seg sg with
            slot := if p = .seg sg then (if st.role = .field then .free else .outOfUse) else (s.seg sg).slot }) ∧
    (¬((s.port p).enabled = true ∧ (s.port p).rx.state = .idle ∧ (s.port p).tx.state = .idle ∧ s.hasWork p = false ∧
        (∀ sg, p = .seg sg → (s.port p).settings.role = .uplink ∨ (s.seg sg).slot = .free) ∧
        (st.role = (s.port p).settings.role ∨ (s.port p).queue.urgent = [] ∧ (s.port p).queue.normal = [])) →
      s.applyPending p = s)

/-- The send end of a PLAIN, REPLY or NOTICE frame: TXFRAMES is counted, the buffer's reference dropped (R82), a segment's guard
starts (R12), and a slot sending with no answer expected is SETTLING for the settle time (R93). The send end of an attempt:
the slot is AWAITING with the response timer loaded and the record's remaining time full; the first attempt's buffer reference
passes to the slot, a retry's own reference is dropped and the slot keeps its own (R82, R94). A port that is not sending has no
send end, and the command changes nothing there (the model's choice, log 3). -/
def Obligations.SendEndOfAFrameOrAnAttempt : Prop :=
  (∀ (s v : State) (p : Port), s.clockRunning = true → v = s.sent p →
     (∀ d since, (s.port p).tx.state = .sending (.descriptor d) since → (∀ x, d.kind ≠ .exchange x) →
       ∃ (segs : PerSeg SegState) (u : State), exec (.sendEnd p) s = .next u.followUp ∧ u.StartsFrom u.followUp ∧
         u = { v with pool := s.pool.drop d.buffer, segs := segs } ∧
         ∀ sg, segs.get sg =
           { s.seg sg with
             slot :=
               if p = .seg sg ∧ (s.seg sg).slot = .sendingNoAnswer then
                 .settling (s.now + Config.finePerMilli * (s.segSettings sg).settleMillis)
               else (s.seg sg).slot }) ∧
     ((∀ c n, (s.port p).tx.state ≠ .sending c n) → exec (.sendEnd p) s = .next s)) ∧
  (∀ (s v : State) (sg : Seg) (r : ExchangeRecord), s.clockRunning = true → (s.seg sg).slot = .sendingExchange r →
     v = { s.sent (.seg sg) with
       segs := s.segs.set sg
         { s.seg sg with
           slot := .awaiting { r with remaining := some (s.segSettings sg).responseMillis }
             (s.now + Config.finePerMilli * (s.segSettings sg).responseMillis) } } →
     (∀ d x since, (s.port (.seg sg)).tx.state = .sending (.descriptor d) since → d.kind = .exchange x →
       ∃ u : State, exec (.sendEnd (.seg sg)) s = .next u.followUp ∧ u.StartsFrom u.followUp ∧ u = v) ∧
     ∀ b since, (s.port (.seg sg)).tx.state = .sending (.retry b) since →
       ∃ u : State, exec (.sendEnd (.seg sg)) s = .next u.followUp ∧ u.StartsFrom u.followUp ∧
         u = { v with pool := s.pool.drop b })

/-- The send end of an agent reply that is no restart reply: a pending address tied to it is in force (R127), and the lane, now
free, takes a deferred reply that waits for it, else the reply held in REPLY-WAIT (R76, R125, R126), else it is empty. -/
def Obligations.SendEndOfAReply : Prop :=
  ∀ (s v : State) (p : Port) (r : Reply) (since : Nat), s.clockRunning = true →
    (s.port p).tx.state = .sending .reply since → (s.port p).lane = some r → r.restart = none → v = s.sent p →
    ∃ u : State, exec (.sendEnd p) s = .next u.followUp ∧ u.StartsFrom u.followUp ∧
      (∀ o, s.agent.owedTo p = some o →
        u = { v with
          ports := v.ports.set p { v.port p with lane := some o }
          agent := { s.agent.addressed r.id with deferred := none } }) ∧
      (∀ h, s.agent.owedTo p = none → s.agent.heldFor p = some h →
        u = { v with
          ports := v.ports.set p { v.port p with lane := some h }
          agent := { s.agent.addressed r.id with mode := .idle } }) ∧
      (s.agent.owedTo p = none → s.agent.heldFor p = none →
        u = { v with ports := v.ports.set p { v.port p with lane := none }, agent := s.agent.addressed r.id })

/-- The send end of a restart reply takes its reset (R147): a COLD reset wipes the part, a WARM reset stops its ports, flushes its
queues and lanes and ends its exchanges, and in both the start-up load begins in the same event (R20, R21, R184). Until that
load completes, the rule table is empty after COLD, and after WARM the old rules, agent settings and roles' slots stand: the
model's choice, log 12. -/
def Obligations.SendEndOfARestartReplyTakesTheReset : Prop :=
  ∀ (s : State) (p : Port) (r : Reply) (since : Nat), s.clockRunning = true →
    (s.port p).tx.state = .sending .reply since → (s.port p).lane = some r →
    (r.restart = some .cold →
      ∃ t, exec (.sendEnd p) s = .next t ∧ s.ColdResetOf t .cold ∧ t.store = s.store.starting ∧ t.supply = s.supply ∧
        t.pinHeld = s.pinHeld ∧ t.pending = s.pending) ∧
    (r.restart = some .warm → ∃ t, exec (.sendEnd p) s = .next t ∧ (s.sent p).WarmResetOf t)

/-- The send end of an alert empties the lane (R163): in OUTSTANDING the repeat timer is loaded with the interval in force, in
QUIET the formation test is applied, in STALLED nothing more. The repeat timer's expiry in OUTSTANDING (R164): below three
repeats the current alert is placed again and the repeat count rises; at three nothing is placed, the unit is STALLED and
keeps the alert. In both the timer is stopped. In any other state, or with the timer stopped, nothing happens (the model's
choice, log 3, as is the send end in STALLED, which R163 says cannot occur). An alert's frame is 11 bytes: the agent address,
0x71, the sequence, the cause set, the timestamp, the pool free count and the check (R162, R190). -/
def Obligations.AlertIsSentAndRepeated : Prop :=
  (∀ (address : Byte) (sequence : BitVec 8) (causes : CauseSet) (stamp : Stamp) (free : Nat) (head : List Byte),
     head = [address, 0x71#8, sequence, causes.code] ++ be32 stamp.toNat ++ [byteOf free] →
     alertFrame address sequence causes stamp free =
         head ++ [((checkOf head) >>> 8).setWidth 8, (checkOf head).setWidth 8] ∧
       (alertFrame address sequence causes stamp free).length = 11 ∧
       causes.code.getLsbD 0 = causes.pool ∧ causes.code.getLsbD 1 = causes.snapshot ∧
       causes.code.getLsbD 2 = causes.exchange ∧ causes.code.getLsbD 3 = causes.store ∧
       causes.code.getLsbD 4 = causes.restarted ∧ causes.code.toNat < 32) ∧
  (∀ (s v : State) (p : Port) (since : Nat), s.clockRunning = true →
     (s.port p).tx.state = .sending .alert since → v = { s.sent p with alertLane := none } →
     ∃ u : State, exec (.sendEnd p) s = .next u.followUp ∧ u.StartsFrom u.followUp ∧
       (s.alert.state = .outstanding →
         u = { v with alert := { s.alert with repeatDue := some (s.now + Config.finePerMilli * s.agent.settings.interval) } }) ∧
       (s.alert.state = .quiet → u = v.alerted []) ∧
       (s.alert.state = .stalled → u = v)) ∧
  (∀ s : State, s.clockRunning = true →
     (∀ due a, s.alert.repeatDue = some due → s.alert.state = .outstanding → s.alert.current = some a →
       (s.alert.repeatCount < 3 →
         ∃ u : State, exec .repeatTimerExpiry s = .next u.followUp ∧ u.StartsFrom u.followUp ∧
           u = { s with
             alert := { s.alert with repeatCount := s.alert.repeatCount + 1, repeatDue := none }
             alertLane := some a.frame }) ∧
       (3 ≤ s.alert.repeatCount →
         exec .repeatTimerExpiry s = .next { s with alert := { s.alert with state := .stalled, repeatDue := none } })) ∧
     (s.alert.repeatDue = none ∨ s.alert.state ≠ .outstanding → exec .repeatTimerExpiry s = .next s))

/-! ### The profile store -/

/-- A commit's completion with every cell as programmed makes the target valid with the captured generation, image and check,
and DONE is owed; a read-back that differs leaves the target not valid, owes STOREFAIL and raises cause STORE (R177, R178).
The store is IDLE and the other bank as it was. The owed reply goes to its lane if that is ready (R126), and carries the agent
address of its command's taking event (R124; kept with the record, the model's reading, log 9). -/
def Obligations.CommitCompletionSettlesTheTarget : Prop :=
  ∀ (s v w : State) (j : CommitJob) (wrong : List (Nat × Byte)) (d : Deferred) (o : CommandOutcome),
    s.clockRunning = true → s.store.state = .committing j → (Instr.commitCompletion wrong).wellFormed = true →
    s.agent.deferred = some d →
    o = (if j.readsBack wrong = true then .done else .storeFail) →
    v = { s with
      store :=
        { s.store.withBank j.target
            { s.store.bank j.target with
              body := j.bodyAfter wrong
              valid := decide (o = .done) } with state := .idle } } →
    w = v.deferredOffered d (replyFrame d.address d.command d.tag o []) →
    ∃ u : State, exec (.commitCompletion wrong) s = .next u.followUp ∧ u.StartsFrom u.followUp ∧
      (o = .done → u = w) ∧ (o = .storeFail → u = w.alerted [.store])

/-- The completion of a LOAD (R182): the store is IDLE, the deferred reply goes to its lane, the rule table is the image's with
hits 0, every port has the image's record pending without Enabled, and the agent settings wait for that reply (R127), or are
in force at once where it is discarded. The reply carries the agent address of its command's taking event (log 9). -/
def Obligations.LoadCompletionAppliesTheImage : Prop :=
  ∀ (s v w : State) (id : BankId) (pr : Profile) (d : Deferred),
    s.clockRunning = true → s.store.state = .loading id → (s.store.bank id).storedProfile? = some pr →
    s.agent.deferred = some d →
    v = { s with
      store := { s.store with state := .idle }
      agent := { s.agent with
        pendingAddress := some ⟨pr.agent.address, s.agent.nextReply, some (pr.agent.mask, pr.agent.interval)⟩ } } →
    w = v.deferredOffered d (replyFrame d.address d.command d.tag .done []) →
    ∃ u : State, exec .loadCompletion s = .next u.followUp ∧ u.StartsFrom u.followUp ∧
      u = { w with ports := u.ports, rules := pr.rules.map fun r => r.map fun r => ⟨r, 0#32⟩ } ∧
      ∀ p, u.port p = { w.port p with pendingSettings := some (pr.ports.get p).settings }

/-- Which of two valid banks is the newest, and which generation is written next (R173). -/
def Obligations.NewestBankByGenerations : Prop :=
  (∀ st : Store, st.bankA.valid = true → st.bankB.valid = true →
    ∀ n, n = (st.bankA.storedGeneration - st.bankB.storedGeneration).toNat →
      (1 ≤ n → n ≤ 2147483647 → st.newest = some .a) ∧
      (2147483649 ≤ n → n ≤ 4294967295 → st.newest = some .b) ∧
      (n = 0 ∨ n = 2147483648 → st.newest = some .a)) ∧
  (∀ st : Store, (st.bankA.valid = true → st.bankB.valid = false → st.newest = some .a) ∧
    (st.bankA.valid = false → st.bankB.valid = true → st.newest = some .b) ∧
    (st.bankA.valid = false → st.bankB.valid = false → st.newest = none)) ∧
  (∀ (st : Store) (id : BankId), st.newest = some id →
    st.generationToWrite = if (st.bank id).storedGeneration = 4294967295#32 then 1#32 else (st.bank id).storedGeneration + 1#32) ∧
  (∀ st : Store, st.newest = none → st.generationToWrite = 1#32) ∧
  (∀ st : Store, st.generationToWrite ≠ 0#32) ∧
  (∀ g : BitVec 32, nextGeneration g ≠ g) ∧
  (1#32 - 4294967295#32).toNat = 2

/-! ### Management commands -/

/-- IDENTIFY (R128): an empty body is answered with vendor code 0x54A3, part code 0x0416, revision 0x01, the agent address in
force, the last reset cause and the time base; any other body is answered BADARG. In every store state. -/
def Obligations.IdentifyReportsThePart : Prop :=
  ∀ (s : State) (e : InputEntry) (rest : List InputEntry), s.Takes .identify e rest →
    ∃ u : State, exec .identify s = .next u.followUp ∧ u.StartsFrom u.followUp ∧
      ((s.requestOf e).body = [] →
        u = (s.taken e).replyOffered e.source
          (s.replyTo e .done
            ([0x54#8, 0xA3#8, 0x04#8, 0x16#8, 0x01#8, s.agent.settings.address, s.resetCause.code] ++ be32 s.timeBase.toNat)
            none)) ∧
      ((s.requestOf e).body ≠ [] → u = s.answered e .badArg)

/-- The reading commands answer DONE with the record of chapter 9.5 as it stands at the taking event, and change nothing but
what taking a command and placing its reply change (R121, R129, R130, R134, R137, R138, R140, R146). Each record has the length
and, at their offsets, the fields that 9.3 and 9.5 give it, with the encodings and value codes of 9.1 and 9.1.1: the settings
block of 9.5.1 in 15 bytes and the rule entry of 9.5.2 in 11 + 3 n among them, absent fields as 0xFF. A reply frame is the agent
address, the request's code and tag, the outcome, the body of a DONE reply, and the check: 6 bytes without a body (R124, R190). -/
def Obligations.ReadingCommandsReportAndChangeNothing : Prop :=
  (∀ (address code tag : Byte) (o : CommandOutcome) (body head : List Byte),
    head = [address, code, tag, o.code] ++ (if o = .done then body else []) →
    replyFrame address code tag o body = head ++ [((checkOf head) >>> 8).setWidth 8, (checkOf head).setWidth 8] ∧
      (o ≠ .done ∨ body = [] → (replyFrame address code tag o body).length = 6) ∧
      passesCheck (replyFrame address code tag o body) = true) ∧
  ((∀ n < 256, (byteOf n).toNat = n) ∧
    (∀ n < 65536, ∃ hi lo : Byte, be16 n = [hi, lo] ∧ 256 * hi.toNat + lo.toNat = n) ∧
    (∀ x : BitVec 32, be32 x.toNat =
      [(x >>> 24).setWidth 8, (x >>> 16).setWidth 8, (x >>> 8).setWidth 8, x.setWidth 8]) ∧
    yesNo false = 0#8 ∧ yesNo true = 1#8 ∧
    [Port.trunk, .seg .seg1, .seg .seg2, .seg .seg3, .seg .seg4].map (fun p => byteOf p.num) = [0#8, 1#8, 2#8, 3#8, 4#8] ∧
    (∀ t a b c d : Bool, ∀ n < 8, (PortSet.code ⟨t, ⟨a, b, c, d⟩⟩).getLsbD n = [t, a, b, c, d].getD n false) ∧
    (∀ x : CauseSet, ∀ n < 8,
      x.code.getLsbD n = [x.pool, x.snapshot, x.exchange, x.store, x.restarted].getD n false) ∧
    [Role.field, .uplink].map (·.code) = [0#8, 1#8] ∧ [Parity.none, .even, .odd].map (·.code) = [0#8, 1#8, 2#8] ∧
    [CheckMode.none, .check16].map (·.code) = [0#8, 1#8] ∧ [Priority.normal, .urgent].map (·.code) = [0#8, 1#8] ∧
    [ResetCause.power, .supply, .pin, .cold, .warm].map (·.code) = [0#8, 1#8, 2#8, 3#8, 4#8] ∧
    [NoticeReason.timeout, .badReply, .queueFull, .noRoute, .cancelled].map (·.code) = [1#8, 2#8, 3#8, 4#8, 5#8]) ∧
  (∀ st : Settings, st.encode.length = 15 ∧
    fieldAt st.encode 0
      [st.role.code, byteOf st.rate, st.parity.code, if st.twoStops = true then 2#8 else 1#8, st.checkMode.code,
        byteOf st.gapHalf] ∧
    (st.timing = none → fieldAt st.encode 6 (List.replicate 8 255#8)) ∧
    (∀ t, st.timing = some t →
      fieldAt st.encode 6 (be16 t.guard) ∧ fieldAt st.encode 8 (be16 t.response) ∧ fieldAt st.encode 10 (be16 t.lapse) ∧
        fieldAt st.encode 12 (be16 t.settle)) ∧
    fieldAt st.encode 14 [yesNo st.mgmt]) ∧
  (∀ r : Rule, r.encode.length = 11 + 3 * r.tests.length ∧
    fieldAt r.encode 0 [PortSet.code r.sources] ∧ fieldAt r.encode 1 (be16 r.minLength) ∧
    fieldAt r.encode 3 (be16 r.maxLength) ∧
    (r.action = .drop → fieldAt r.encode 5 [0#8, 255#8, 255#8, 255#8, 255#8]) ∧
    (∀ targets pr, r.action = .forward targets pr →
      fieldAt r.encode 5 [1#8, PortSet.code targets, pr.code, 255#8, 255#8]) ∧
    (∀ sg pr retries notice, r.action = .exchange sg pr retries notice →
      fieldAt r.encode 5 [2#8, byteOf sg.num, pr.code, byteOf retries, yesNo notice]) ∧
    fieldAt r.encode 10 [byteOf r.tests.length] ∧
    ∀ i t, r.tests[i]? = some t → fieldAt r.encode (11 + 3 * i) [byteOf t.offset, t.value, t.mask]) ∧
  ([CommandOutcome.done, .busy, .badCmd, .badArg, .noEntry, .storeFail].map (·.code) = [0#8, 1#8, 2#8, 3#8, 4#8, 5#8] ∧
    [AlertState.quiet, .outstanding, .stalled].map (·.code) = [0#8, 1#8, 2#8] ∧
    [TxState.off, .idle, .waiting].map (·.code) = [0#8, 1#8, 2#8] ∧ (∀ cur since, (TxState.sending cur since).code = 3#8) ∧
    [RxState.off, .idle, .muted].map (·.code) = [0#8, 1#8, 4#8] ∧
    (∀ f d, (RxState.assembling f).code = 2#8 ∧ (RxState.discarding d).code = 3#8) ∧
    [Slot.outOfUse, .free, .sendingNoAnswer].map (·.code) = [255#8, 0#8, 1#8] ∧
    (∀ r due, [Slot.sendingExchange r, .awaiting r due, .receiving r, .lapsed r due, .resend r, .settling due].map (·.code) =
      [1#8, 2#8, 3#8, 4#8, 5#8, 6#8]) ∧
    AgentMode.idle.code = 0#8 ∧ (∀ p r, (AgentMode.replyWait p r).code = 1#8) ∧
    ∀ st : Store,
      (st.state = .idle → st.code = if st.bankA.valid = true ∨ st.bankB.valid = true then 0#8 else 3#8) ∧
      ((∃ j, st.state = .committing j) → st.code = 1#8) ∧
      ((∃ src, st.state = .loading src) ∨ (∃ src, st.state = .startup src) → st.code = 2#8)) ∧
  (∀ x : State, x.status.length = 104 ∧
    (∀ p, fieldAt x.status (17 * p.num)
      ([yesNo (x.port p).enabled, (x.port p).settings.role.code, (x.port p).rx.state.code, (x.port p).tx.state.code,
          byteOf (x.port p).queue.urgent.length, byteOf (x.port p).queue.normal.length]
        ++ (((x.port p).queue.urgent.head?.map fun d => be32 d.enqueuedAt.toNat).getD [255#8, 255#8, 255#8, 255#8])
        ++ (((x.port p).queue.normal.head?.map fun d => be32 d.enqueuedAt.toNat).getD [255#8, 255#8, 255#8, 255#8])
        ++ [if (x.port p).settings.role = .field then 255#8 else yesNo (x.port p).lane.isSome,
          yesNo (x.port p).pendingSettings.isSome, yesNo (x.port p).snapshot.isSome])) ∧
    fieldAt x.status 85
      ([yesNo x.alertLane.isSome, (x.seg .seg1).slot.code, (x.seg .seg2).slot.code, (x.seg .seg3).slot.code,
          (x.seg .seg4).slot.code, byteOf x.pool.free.length, byteOf x.pool.watermark, x.alert.state.code, x.alert.sequence,
          x.alert.pendingCauses.code, x.store.code, x.agent.mode.code, byteOf x.agent.input.length,
          yesNo x.agent.deferred.isSome, yesNo x.agent.pendingAddress.isSome]
        ++ be32 x.timeBase.toNat)) ∧
  (∀ (x : State) (p : Port), (x.portReport p).length = 33 ∧
    x.portReport p = [byteOf p.num, yesNo (x.port p).enabled] ++ (x.port p).settings.encode
      ++ [yesNo (x.port p).pendingSettings.isSome]
      ++ (((x.port p).pendingSettings.map Settings.encode).getD (List.replicate 15 255#8))) ∧
  (∀ (e : Entry) (i : Nat), (e.report i).length = 16 + 3 * e.rule.tests.length ∧
    e.report i = byteOf i :: (e.rule.encode ++ be32 e.hits.toNat)) ∧
  (∀ (x : State) (first count : Nat), first + count ≤ x.rules.length →
    (x.hitsReport first count).length = 1 + 4 * count ∧ (x.hitsReport first count).head? = some (byteOf count) ∧
      ∀ k < count, fieldAt (x.hitsReport first count) (1 + 4 * k)
        (be32 (((x.rules.getD (first + k) none).map fun e => e.hits).getD 0#32).toNat)) ∧
  (∀ (x : State) (p : Port), (x.countersReport p).length = 108 ∧ (x.countersReport p).head? = some (byteOf p.num) ∧
    (∀ i k, [PortCounter.rxframes, .txframes, .parity, .framing, .brk, .overlength, .checkfail, .nobuf, .unmatched, .misroute,
        .qfull, .aborted, .orphan, .noticelost, .agentbad, .agentovf][i]? = some k →
      fieldAt (x.countersReport p) (1 + 4 * i) (be32 ((x.port p).counters.get k).toNat)) ∧
    (p = .trunk → fieldAt (x.countersReport p) 65 (List.replicate 32 255#8)) ∧
    (∀ sg i k, p = .seg sg → [ExchangeCounter.exchanges, .replied, .timeouts, .badreplies, .retries, .failed, .cancelled,
        .late][i]? = some k →
      fieldAt (x.countersReport p) (65 + 4 * i) (be32 ((x.seg sg).counters.get k).toNat)) ∧
    fieldAt (x.countersReport p) 97
      ([byteOf x.pool.free.length, byteOf x.pool.watermark, x.store.code] ++ be32 x.store.bankA.eraseCount.toNat
        ++ be32 x.store.bankB.eraseCount.toNat)) ∧
  (∀ (x : State) (sg : Seg), (x.exchangeReport sg).length = 24 ∧
    fieldAt (x.exchangeReport sg) 0
      ([byteOf sg.num, (x.seg sg).slot.code,
          match (x.seg sg).slot with
          | .sendingExchange _ => 0#8
          | .sendingNoAnswer => 1#8
          | _ => 255#8]
        ++ be16 (x.seg sg).lastNumber.toNat) ∧
    ((x.seg sg).slot ∈ [Slot.outOfUse, .free, .sendingNoAnswer] ∨ (∃ due, (x.seg sg).slot = .settling due) →
      fieldAt (x.exchangeReport sg) 5 (0#8 :: List.replicate 18 255#8)) ∧
    ∀ r, ((x.seg sg).slot = .sendingExchange r ∨ (x.seg sg).slot = .receiving r ∨ (∃ due, (x.seg sg).slot = .lapsed r due) ∨
        (x.seg sg).slot = .resend r ∨
        ∃ q due, (x.seg sg).slot = .awaiting q due ∧
          r = { q with remaining := some ((due - x.now) / Config.finePerMilli) }) →
      fieldAt (x.exchangeReport sg) 5
        ([1#8] ++ be16 r.number.toNat
          ++ [byteOf r.origin.num, r.station, (r.buffer.map byteOf).getD 255#8, byteOf r.rule, r.priority.code,
            byteOf r.retries, yesNo r.notice, byteOf r.attempt]
          ++ be32 r.startedAt.toNat ++ ((r.remaining.map be16).getD [255#8, 255#8])
          ++ [match r.lastResult with
              | .none => 0#8
              | .timeout => 1#8
              | .badReply => 2#8,
            yesNo r.retryPending])) ∧
  (∀ st : Store, st.report.length = 19 ∧
    st.report = [yesNo st.bankA.valid] ++ be32 (if st.bankA.valid then st.bankA.storedGeneration else 0#32).toNat
      ++ be32 st.bankA.eraseCount.toNat ++ [yesNo st.bankB.valid]
      ++ be32 (if st.bankB.valid then st.bankB.storedGeneration else 0#32).toNat ++ be32 st.bankB.eraseCount.toNat
      ++ [st.code]) ∧
  ∀ (s x : State) (i : Instr) (e : InputEntry) (rest : List InputEntry) (body out : List Byte),
    s.Takes i e rest → x = s.taken e → body = (s.requestOf e).body →
    (i = .readStatus ∧ body = [] ∧ out = x.status ∨
      i = .readPort ∧ s.notLoading ∧ (∃ n p, body = [n] ∧ port? n = some p ∧ out = x.portReport p) ∨
      i = .readRule ∧ s.notLoading ∧
        (∃ n e', body = [n] ∧ n.toNat < 128 ∧ s.rules[n.toNat]? = some (some e') ∧ out = e'.report n.toNat) ∨
      i = .readHits ∧ s.notLoading ∧
        (∃ a n, body = [a, n] ∧ 1 ≤ n.toNat ∧ n.toNat ≤ 60 ∧ a.toNat + n.toNat ≤ 128 ∧ out = x.hitsReport a.toNat n.toNat) ∨
      i = .readCounters ∧ (∃ n p, body = [n] ∧ port? n = some p ∧ out = x.countersReport p) ∨
      i = .readExchange ∧ s.notLoading ∧ (∃ n sg, body = [n] ∧ port? n = some (.seg sg) ∧ out = x.exchangeReport sg) ∨
      i = .readStore ∧ body = [] ∧ out = x.store.report) →
    ∃ u : State, exec i s = .next u.followUp ∧ u.StartsFrom u.followUp ∧
      u = x.replyOffered e.source (s.replyTo e .done out none)

/-- TAKE SNAPSHOT on a HELD snapshot answers its record and empties it; on an EMPTY one it is answered NOENTRY (R141, R158). The
record is the 18 bytes of 9.5.6: port, kind, timestamp, length seen, number of bytes kept, the bytes with zeros behind them to
eight, missed count. -/
def Obligations.TakeSnapshotReleasesIt : Prop :=
  (∀ (r : Snapshot) (p : Port), r.bytes.length ≤ 8 → (r.report p).length = 18 ∧
    r.report p =
      [byteOf p.num,
          match r.kind with
          | .parity => 0#8
          | .framing => 1#8
          | .brk => 2#8
          | .overlength => 3#8
          | .check => 4#8
          | .nobuf => 5#8]
        ++ be32 r.stamp.toNat ++ be16 r.lengthSeen ++ [byteOf r.bytes.length] ++ r.bytes
        ++ List.replicate (8 - r.bytes.length) 0#8 ++ [r.missed]) ∧
  ∀ (s : State) (e : InputEntry) (rest : List InputEntry) (n : Byte) (p : Port), s.Takes .takeSnapshot e rest → s.notLoading →
    (s.requestOf e).body = [n] → port? n = some p →
    ∃ u : State, exec .takeSnapshot s = .next u.followUp ∧ u.StartsFrom u.followUp ∧
      (∀ r, (s.port p).snapshot = some r →
        u = State.replyOffered { s.taken e with ports := s.ports.set p { s.port p with snapshot := none } } e.source
          (s.replyTo e .done (r.report p) none)) ∧
      ((s.port p).snapshot = none → u = s.answered e .noEntry)

/-- SET PORT, with settings that pass the checks of R3 and the store IDLE: the reply is offered first, then the settings stand as
the port's pending record in place of any before (R4, R131). -/
def Obligations.SetPortPlacesThePendingRecord : Prop :=
  ∀ (s v : State) (e : InputEntry) (rest : List InputEntry) (p : Port) (st : Settings),
    s.Takes .setPort e rest → s.store.state = .idle → portSettings? (s.requestOf e).body = some (p, st) →
    v = s.answered e .done →
    ∃ u : State, exec .setPort s = .next u.followUp ∧ u.StartsFrom u.followUp ∧
      u = { v with ports := v.ports.set p { v.port p with pendingSettings := some st } }

/-- ENABLE PORT with the store IDLE (R18, R132): a disabled port comes up with its pending record, if any, made active, its
receiver and transmitter IDLE and a segment's slot FREE or out of use; an enabled port is left as it is. Both are DONE. -/
def Obligations.EnablePortBringsThePortUp : Prop :=
  ∀ (s : State) (e : InputEntry) (rest : List InputEntry) (n : Byte) (p : Port) (st : Settings),
    s.Takes .enablePort e rest → s.store.state = .idle → (s.requestOf e).body = [n] → port? n = some p →
    st = ((s.port p).pendingSettings.getD (s.port p).settings) →
    ∃ u : State, exec .enablePort s = .next u.followUp ∧ u.StartsFrom u.followUp ∧
      ((s.port p).enabled = true → u = s.answered e .done) ∧
      ((s.port p).enabled = false →
        ∃ segs : PerSeg SegState,
          u = State.replyOffered
            { s.taken e with
              ports := s.ports.set p
                { s.port p with
                  enabled := true
                  settings := st
                  pendingSettings := none
                  rx := Receiver.fresh .idle
                  tx := Transmitter.fresh .idle
                  guardFrom := none }
              segs := segs } e.source (s.replyTo e .done [] none) ∧
          ∀ sg, segs.get sg =
            { s.seg sg with
              slot := if p = .seg sg then (if st.role = .field then .free else .outOfUse) else (s.seg sg).slot })

/-- DISABLE PORT on an enabled segment with the store IDLE (R19, R84, R109, R110, R126, R127, R133, R147): receiver and
transmitter OFF, a frame being sent counted ABORTED and cut after its character in progress (at a boundary the one that starts,
the model's choice, log 25), queue and lane emptied, the buffers of the frame in assembly, the current
frame, the queue and the open exchange's request dropped in that order, an open exchange CANCELLED with its flagged notice,
the slot FREE, a lost deferred reply's record gone; then the reply is offered, and a lost restart reply's reset is taken (the
model's reading of the order, log 31). Where a lost reply puts a pending address in force, this reply carries the old one and
the notice the new one (the model's reading, log 37). On a disabled segment nothing but the reply. -/
def Obligations.DisablePortStopsTheSegment : Prop :=
  ∀ (s v w : State) (e : InputEntry) (rest : List InputEntry) (n : Byte) (sg : Seg) (x : PortState) (a b : Agent)
    (freed : List Nat),
    s.Takes .disablePort e rest → s.store.state = .idle → (s.requestOf e).body = [n] → port? n = some (.seg sg) →
    x = s.port (.seg sg) →
    ((s.port (.seg sg)).enabled = false →
      ∃ u : State, exec .disablePort s = .next u.followUp ∧ u.StartsFrom u.followUp ∧ u = s.answered e .done) ∧
    ((s.port (.seg sg)).enabled = true →
      freed = x.rx.state.buffer.toList
        ++ (match x.tx.state with
            | .sending cur _ => cur.buffer.toList
            | .off | .idle | .waiting => [])
        ++ (x.queue.urgent ++ x.queue.normal).map (·.buffer)
        ++ (if (s.seg sg).slot.openRecord.isSome = true then (s.seg sg).slot.requestReference.toList else []) →
      a = (match x.lane with
        | none => (s.taken e).agent
        | some r => (s.taken e).agent.addressed r.id) →
      b = (match a.owedTo (.seg sg) with
        | none => a
        | some r => Agent.addressed { a with deferred := none } r.id) →
      v = { s.taken e with
        pool := freed.foldl Pool.drop (s.taken e).pool
        agent := b
        ports := s.ports.set (.seg sg)
          { x with
            enabled := false
            rx := Receiver.fresh .off
            tx := ⟨.off, match x.tx.state with
              | .sending cur since => (s.taken e).characterInProgress (.seg sg) cur since
              | .off | .idle | .waiting => x.tx.drain⟩
            queue := TxQueue.empty
            lane := none
            guardFrom := none
            counters := x.counters.bumpIf x.tx.state.isSending .aborted }
        segs := s.segs.set sg
          { s.seg sg with
            slot := if (s.seg sg).slot = .outOfUse then .outOfUse else .free
            counters :=
              if (s.seg sg).slot.openRecord.isSome = true then (s.seg sg).counters.bump .cancelled
              else (s.seg sg).counters } } →
      w = State.replyOffered
        (match (s.seg sg).slot.openRecord with
          | none => v
          | some r => v.noticeIf r.notice ⟨r.origin, sg, r.station, .cancelled, r.attempt, r.number, r.rule⟩)
        e.source (s.replyTo e .done [] none) →
      ∃ u : State, exec .disablePort s = .next u.followUp ∧ u.StartsFrom u.followUp ∧
        (x.lane.bind (·.restart) = none → u = w) ∧ ∀ f, x.lane.bind (·.restart) = some f → u = w.restart f)

/-- WRITE RULE with an index and an entry that pass their checks, the store IDLE: the entry at that index is replaced whole with
hit count 0 and every other entry stays as it is (R53, R135). -/
def Obligations.WriteRuleReplacesOneEntry : Prop :=
  ∀ (s : State) (e : InputEntry) (rest : List InputEntry) (n : Byte) (entry : List Byte) (r : Rule),
    s.Takes .writeRule e rest → s.store.state = .idle → (s.requestOf e).body = n :: entry → n.toNat < 128 →
    rule? entry = some r →
    ∃ u : State, exec .writeRule s = .next u.followUp ∧ u.StartsFrom u.followUp ∧
      u = { s.answered e .done with rules := s.rules.set n.toNat (some ⟨r, 0#32⟩) }

/-- DELETE RULE (R136): an index outside 0 to 127, or any other body, is answered BADARG; with the store not IDLE the command is
answered BUSY; an invalid entry is answered NOENTRY and the table does not change; a valid entry is made invalid, with its
hit count, and the command is answered DONE. -/
def Obligations.DeleteRuleMakesTheEntryInvalid : Prop :=
  ∀ (s : State) (e : InputEntry) (rest : List InputEntry), s.Takes .deleteRule e rest →
    ∃ u : State, exec .deleteRule s = .next u.followUp ∧ u.StartsFrom u.followUp ∧
      (s.store.state ≠ .idle → u = s.answered e .busy) ∧
      (s.store.state = .idle →
        ((∀ n : Byte, (s.requestOf e).body = [n] → 128 ≤ n.toNat) → u = s.answered e .badArg) ∧
        ∀ n : Byte, (s.requestOf e).body = [n] → n.toNat < 128 →
          (s.rules.getD n.toNat none = none → u = s.answered e .noEntry) ∧
          ∀ entry, s.rules.getD n.toNat none = some entry →
            u = { s.answered e .done with rules := s.rules.set n.toNat none })

/-- CLEAR COUNTERS while the store is not LOADING (R139): the PORT form zeroes one port's counters and a segment's exchange
counters, the ALL form every port's and segment's, the HITS form every hit count; each sets the watermark to the free count.
No form changes a snapshot, an exchange number or an alert. -/
def Obligations.ClearCountersZeroesWhatItsFormNames : Prop :=
  ∀ (s v : State) (i : Instr) (e : InputEntry) (rest : List InputEntry), s.Takes i e rest → s.notLoading →
    v = { s.taken e with pool := { (s.taken e).pool with watermark := (s.taken e).pool.free.length } } →
    (∀ n p, i = .clearCountersPort → (s.requestOf e).body = [0#8, n] → port? n = some p →
      ∃ (segs : PerSeg SegState) (u : State), exec i s = .next u.followUp ∧ u.StartsFrom u.followUp ∧
        (∀ sg, segs.get sg =
          { s.seg sg with counters := if p = .seg sg then ExchangeCounters.zero else (s.seg sg).counters }) ∧
        u = State.replyOffered
          { v with ports := s.ports.set p { s.port p with counters := PortCounters.zero }, segs := segs } e.source
          (s.replyTo e .done [] none)) ∧
    (i = .clearCountersAll → (s.requestOf e).body = [1#8] →
      ∃ u : State, exec i s = .next u.followUp ∧ u.StartsFrom u.followUp ∧
        u = State.replyOffered
          { v with
            ports := s.ports.map fun x => { x with counters := PortCounters.zero }
            segs := s.segs.map fun x => { x with counters := ExchangeCounters.zero } } e.source
          (s.replyTo e .done [] none)) ∧
    (i = .clearCountersHits → (s.requestOf e).body = [2#8] →
      ∃ u : State, exec i s = .next u.followUp ∧ u.StartsFrom u.followUp ∧
        u = State.replyOffered
          { v with rules := s.rules.map fun x => x.map fun x => { x with hits := 0#32 } } e.source
          (s.replyTo e .done [] none))

/-- ACK ALERT in every store state (R142): any body but one byte is answered BADARG; in QUIET the command is answered NOENTRY; a
sequence other than the current alert's is answered BADARG with the alert state as it was; a matching one is DONE, returns
the unit to QUIET with its timer stopped, and a new alert forms at once from causes that wait, unless an alert still stands
in the lane, which stays there (R161, R166). -/
def Obligations.AckAlertReturnsToQuiet : Prop :=
  ∀ (s : State) (e : InputEntry) (rest : List InputEntry), s.Takes .ackAlert e rest →
    ∃ u : State, exec .ackAlert s = .next u.followUp ∧ u.StartsFrom u.followUp ∧
      ((s.requestOf e).body.length ≠ 1 → u = s.answered e .badArg) ∧
      ∀ n, (s.requestOf e).body = [n] →
        (s.alert.state = .quiet → u = s.answered e .noEntry) ∧
        (s.alert.state ≠ .quiet → s.alert.current.map (·.sequence) ≠ some n → u = s.answered e .badArg) ∧
        (s.alert.state ≠ .quiet → s.alert.current.map (·.sequence) = some n →
          u = State.replyOffered
            (State.alerted { s.taken e with alert := ⟨.quiet, s.alert.sequence, s.alert.pendingCauses, none, 0, none⟩ } [])
            e.source (s.replyTo e .done [] none))

/-- SET AGENT with settings in range and the store IDLE (R143): mask and interval are in force at once, the address is pending,
tied to this command's reply, which still carries the old one; where the reply is discarded it is in force at once (R127). -/
def Obligations.SetAgentTiesTheAddressToItsReply : Prop :=
  ∀ (s : State) (e : InputEntry) (rest : List InputEntry) (a : AgentSettings), s.Takes .setAgent e rest →
    s.store.state = .idle → agentSettings? (s.requestOf e).body = some a →
    ∃ u : State, exec .setAgent s = .next u.followUp ∧ u.StartsFrom u.followUp ∧
      u = State.replyOffered
        { s.taken e with
          agent :=
            { (s.taken e).agent with
              settings := ⟨s.agent.settings.address, a.mask, a.interval⟩
              pendingAddress := some ⟨a.address, s.agent.nextReply, none⟩ } } e.source (s.replyTo e .done [] none)

/-- COMMIT accepted (R126, R144, R175): no reply yet but a deferred reply record; the target is the bank that is not the newest,
bank A where none is valid; its erase count rises, it is not valid and its body erased; generation and image are captured:
rules without hits, pending records in place of active ones, a pending agent address in place of the one in force. LOAD with a
valid bank: a deferred reply record and LOADING from the newest bank; with none, NOENTRY at once (R145, R181). That the body is
erased whole at the acceptance is the model's choice (log 11), and the agent address kept in the record its reading (log 9). -/
def Obligations.CommitAndLoadAreAccepted : Prop :=
  (∀ (s : State) (e : InputEntry) (rest : List InputEntry) (target : BankId), s.Takes .commit e rest → s.store.state = .idle →
     s.agent.deferred = none → (s.requestOf e).body = [] →
     (s.store.newest = none ∧ target = .a ∨ s.store.newest = some .a ∧ target = .b ∨ s.store.newest = some .b ∧ target = .a) →
     ∃ u : State, exec .commit s = .next u.followUp ∧ u.StartsFrom u.followUp ∧
       u = { s.taken e with
         agent :=
           { (s.taken e).agent with
             deferred := some ⟨e.source, (s.requestOf e).code, (s.requestOf e).tag, s.agent.settings.address, none⟩ }
         store :=
           { s.store.withBank target ⟨(s.store.bank target).eraseCount.bump, [], false⟩ with
             state := .committing ⟨target, s.store.generationToWrite,
               { agent :=
                   { s.agent.settings with
                     address := (s.agent.pendingAddress.map (·.address)).getD s.agent.settings.address }
                 ports := s.ports.map fun x => ⟨x.enabled, x.pendingSettings.getD x.settings⟩
                 rules := s.rules.map fun x => x.map (·.rule) }⟩ } }) ∧
  (∀ (s : State) (e : InputEntry) (rest : List InputEntry), s.Takes .load e rest → s.store.state = .idle →
     s.agent.deferred = none → (s.requestOf e).body = [] →
     ∃ u : State, exec .load s = .next u.followUp ∧ u.StartsFrom u.followUp ∧
       (s.store.newest = none → u = s.answered e .noEntry) ∧
       ∀ id, s.store.newest = some id →
         u = { s.taken e with
           agent :=
             { (s.taken e).agent with
               deferred := some ⟨e.source, (s.requestOf e).code, (s.requestOf e).tag, s.agent.settings.address, none⟩ }
           store := { s.store with state := .loading id } })

/-- RESTART in every store state is DONE with its reply marked by its form, and the reset is not taken yet; where the reply is
discarded the reset is taken at once (R147). An unknown command code is answered BADCMD (R122). -/
def Obligations.RestartMarksItsReply : Prop :=
  ∀ (s : State) (e : InputEntry) (rest : List InputEntry),
    (∀ i f n, s.Takes i e rest → (i = .restartCold ∧ f = .cold ∧ n = 0#8 ∨ i = .restartWarm ∧ f = .warm ∧ n = 1#8) →
      (s.requestOf e).body = [n] →
      ∃ u : State, exec i s = .next u.followUp ∧ u.StartsFrom u.followUp ∧
        ((s.port e.source).isOff = false → (s.port e.source).settings.role = .uplink →
          u = (s.taken e).replyOffered e.source (s.replyTo e .done [] (some f))) ∧
        ((s.port e.source).isOff = true ∨ (s.port e.source).settings.role = .field →
          u = ((s.taken e).replyOffered e.source (s.replyTo e .done [] (some f))).restart f)) ∧
    (s.Takes .unknownCommand e rest →
      ∃ u : State, exec .unknownCommand s = .next u.followUp ∧ u.StartsFrom u.followUp ∧ u = s.answered e .badCmd)

/-- The order of checks of R122, for BUSY and BADARG: a command not allowed in the store's state is BUSY whatever its body (R123);
one that is allowed is BADARG where its body is not of its layout; neither changes anything beyond the taking and the reply. -/
def Obligations.RefusedCommandsChangeNothing : Prop :=
  ∀ (s : State) (i : Instr) (e : InputEntry) (rest : List InputEntry) (body : List Byte), s.Takes i e rest →
    body = (s.requestOf e).body →
    (i ∈ [Instr.setPort, .enablePort, .disablePort, .writeRule, .deleteRule, .setAgent] ∧ s.store.state ≠ .idle ∨
        i ∈ [Instr.readPort, .readRule, .readHits, .clearCountersPort, .clearCountersAll, .clearCountersHits, .readExchange,
          .takeSnapshot] ∧ ¬s.notLoading ∨
        i ∈ [Instr.commit, .load] ∧ (s.store.state ≠ .idle ∨ s.agent.deferred ≠ none) →
      ∃ u : State, exec i s = .next u.followUp ∧ u.StartsFrom u.followUp ∧ u = s.answered e .busy) ∧
    (i ∈ [Instr.readStatus, .readStore] ∧ body ≠ [] ∨
        i ∈ [Instr.commit, .load] ∧ s.store.state = .idle ∧ s.agent.deferred = none ∧ body ≠ [] ∨
        i = .readCounters ∧ (∀ n p, body = [n] → port? n ≠ some p) ∨
        i ∈ [Instr.readPort, .takeSnapshot] ∧ s.notLoading ∧ (∀ n p, body = [n] → port? n ≠ some p) ∨
        i = .enablePort ∧ s.store.state = .idle ∧ (∀ n p, body = [n] → port? n ≠ some p) ∨
        i = .readExchange ∧ s.notLoading ∧ (∀ n sg, body = [n] → port? n ≠ some (.seg sg)) ∨
        i = .disablePort ∧ s.store.state = .idle ∧ (∀ n sg, body = [n] → port? n ≠ some (.seg sg)) ∨
        i = .readRule ∧ s.notLoading ∧ (∀ n, body = [n] → 128 ≤ n.toNat) ∨
        i = .readHits ∧ s.notLoading ∧
          (∀ a n, body = [a, n] → n.toNat = 0 ∨ 60 < n.toNat ∨ 128 < a.toNat + n.toNat) ∨
        i = .setPort ∧ s.store.state = .idle ∧ portSettings? body = none ∨
        i = .writeRule ∧ s.store.state = .idle ∧ (∀ n entry, body = n :: entry → 128 ≤ n.toNat ∨ rule? entry = none) ∨
        i = .setAgent ∧ s.store.state = .idle ∧ agentSettings? body = none ∨
        i = .clearCountersPort ∧ s.notLoading ∧ (∀ n p, body = [0#8, n] → port? n ≠ some p) ∨
        i = .clearCountersAll ∧ s.notLoading ∧ body ≠ [1#8] ∨
        i = .clearCountersHits ∧ s.notLoading ∧ body ≠ [2#8] ∨
        i = .restartCold ∧ body ≠ [0#8] ∨
        i = .restartWarm ∧ body ≠ [1#8] →
      ∃ u : State, exec i s = .next u.followUp ∧ u.StartsFrom u.followUp ∧ u = s.answered e .badArg) ∧
    (i = .readRule ∧ s.notLoading ∧ (∃ n, body = [n] ∧ n.toNat < 128 ∧ s.rules.getD n.toNat none = none) →
      ∃ u : State, exec i s = .next u.followUp ∧ u.StartsFrom u.followUp ∧ u = s.answered e .noEntry)

/-- A queued frame that fails the agent's own check is counted AGENTBAD on its source and discarded with no reply (R121); a
management row that the head entry does not hold, or any while the agent is in REPLY-WAIT, is not taken (model's choice,
log 3 and log 6). -/
def Obligations.BadOrAbsentCommandsAreNotCarriedOut : Prop :=
  ∀ (s v : State) (i : Instr) (e : InputEntry) (rest : List InputEntry), s.clockRunning = true →
    (s.agent.mode = .idle → s.agent.input = e :: rest → (s.requestOf e).row = i → e.checkMode = .none →
      passesCheck (s.pool.frame e.buffer) = false → v = s.taken e →
      ∃ u : State, exec i s = .next u.followUp ∧ u.StartsFrom u.followUp ∧
        u =
          { v with
            ports := v.ports.set e.source
              { v.port e.source with counters := (v.port e.source).counters.bump .agentbad } }) ∧
    ((∃ rq : Request, rq.row = i) →
      (s.agent.input = [] ∨ s.agent.mode ≠ .idle ∨ (s.agent.input = e :: rest ∧ (s.requestOf e).row ≠ i)) →
      exec i s = .next s)

/-! ### What every step keeps -/

/-- Every settings block, port record, rule entry and agent settings in range is read back, byte for byte, as what was written
(chapter 9.5). A full record is the Enabled byte and the settings block (9.5.1), agent settings are address, mask and interval
(9.5.7); the bytes of the settings block and of the rule entry stand in `ReadingCommandsReportAndChangeNothing`. -/
def Obligations.SettingsAndRulesReadBackAsWritten : Prop :=
  (∀ (p : Port) (st : Settings), st.inRange p = true →
    settings? p st.encode = some st ∧ portSettings? (byteOf p.num :: st.encode) = some (p, st)) ∧
  (∀ (p : Port) (r : PortRecord), r.inRange p = true → portRecord? p r.encode = some r ∧ r.encode = yesNo r.enabled :: r.settings.encode) ∧
  (∀ r : Rule, r.inRange = true →
    rule? r.encode = some r ∧ ∀ i < 128, indexedRule? (byteOf i :: r.encode) = some (i, r)) ∧
  ∀ a : AgentSettings, a.inRange = true → agentSettings? a.encode = some a ∧ a.encode = [a.address, a.mask.code] ++ be16 a.interval

/-- A bank that a commit has programmed and the memory has kept holds the captured profile and generation and is valid at the
next start-up load's assessment; where the memory kept any byte otherwise, it is not valid there (R172, R176 to R178, R191). The image has the layout of 9.6: agent
settings, five full records of 16 bytes, 128 rule slots of 24 bytes (offsets in the image, which begins at bank offset 8). -/
def Obligations.CommittedBankReadsBack : Prop :=
  (∀ x : Profile, x.inRange = true → x.encode.length = 3156 ∧ fieldAt x.encode 0 x.agent.encode ∧
    (∀ p, fieldAt x.encode (4 + 16 * p.num) (x.ports.get p).encode) ∧
    ∀ i, (x.rules[i]? = some none → fieldAt x.encode (84 + 24 * i) (List.replicate 24 0#8)) ∧
      ∀ r, x.rules[i]? = some (some r) →
        fieldAt x.encode (84 + 24 * i) ([1#8] ++ r.encode ++ List.replicate (12 - 3 * r.tests.length) 0#8)) ∧
  ∀ (j : CommitJob) (wrong : List (Nat × Byte)) (b : Bank), j.image.inRange = true →
    (Instr.commitCompletion wrong).wellFormed = true → b.body = j.bodyAfter wrong →
    (j.readsBack wrong = true →
      b.contentsValid = true ∧ b.storedProfile? = some j.image ∧ b.storedGeneration = j.generation) ∧
    (j.readsBack wrong = false → b.contentsValid = false) ∧
    j.readsBack [] = true

/-- Every step keeps the law of the pool (R37): the free list holds buffer numbers without duplicates, and exactly the buffers of
count 0; and it keeps the canonical form of the pool's memory and of both banks. Every step also keeps, together, that each
buffer's reference count is the number of its holders (R38), that a slot and its transmitter agree about the request's
reference (R81, R82), that a port that is off holds nothing (R19, R84), and the laws of slots and attempts (R87, R108). -/
def Obligations.StepKeepsPoolAndMemoryLaws : Prop :=
  (∀ s t : State, s.pool.lawful → s.memoryWf → step s = .next t → t.pool.lawful ∧ t.memoryWf) ∧
    ∀ s t : State, s.holdersOk → step s = .next t → t.holdersOk

/-- Every step keeps the bounds (R43, R72, R79, R120, R159): 20 descriptors on a queue, 4 in the aging counter, 4 entries in the
agent's input queue, 128 rule entries, 3 repeats, and the model's part of a microsecond below 288 fine units (log 2). -/
def Obligations.StepKeepsTheBounds : Prop := ∀ s t : State, s.bounded → step s = .next t → t.bounded

/-- Every step keeps all active and pending settings within the checks of R3 and the trunk enabled in UPLINK role (R1, R18), and
keeps a segment's slot out of use exactly in UPLINK role (R87). Every step also keeps in their ranges, with the settings, the
rule table's entries (R51), the agent settings and a pending address with what comes with it (R127, R143), and the image that a
commit has captured (R144, R172). -/
def Obligations.StepKeepsSettingsAndRoles : Prop :=
  (∀ s t : State, s.settingsOk → s.slotsFollowRoles → step s = .next t → t.settingsOk ∧ t.slotsFollowRoles) ∧
    ∀ s t : State, s.configOk → step s = .next t → t.configOk

/-- Every step keeps the attempt number of each exchange at least 1 and at most one plus its retries (R108). -/
def Obligations.StepKeepsTheAttemptLaw : Prop := ∀ s t : State, s.attemptsOk → step s = .next t → t.attemptsOk

/-- Every step keeps at most one alert, present exactly in OUTSTANDING and STALLED, the repeat timer running in OUTSTANDING alone
with the alert lane empty, and no alert unformed that may form but over a start-up load (R159, R161, R163, R164, R170). -/
def Obligations.StepKeepsTheAlertLaws : Prop := ∀ s t : State, s.alertsOk → step s = .next t → t.alertsOk

/-- No command but CLEAR COUNTERS in its PORT and ALL forms lowers a port counter or an exchange counter, unless its event takes a
reset of a cold kind, which sets them all to 0 (R149, R153). DISABLE PORT may take a COLD reset after it has built a notice
(log 31). The fall of VDD below 1.2 V sets them to 0 too, the model's reading (log 16). -/
def Obligations.CountersNeverFall : Prop :=
  ∀ (c : Instr) (s t : State), c ≠ .clearCountersPort → c ≠ .clearCountersAll → exec c s = .next t →
    ((∀ p k, (s.port p).counters.get k ≤ (t.port p).counters.get k) ∧
        ∀ sg k, (s.seg sg).counters.get k ≤ (t.seg sg).counters.get k) ∨
      (∃ k, s.ColdResetOf t k) ∨ (c = .disablePort ∧ ∃ w : State, w.ColdResetOf t .cold) ∨
      (c = .vddFallsBelow1V2 ∧ (∀ p k, (t.port p).counters.get k = 0#32) ∧ ∀ sg k, (t.seg sg).counters.get k = 0#32)

/-- The machine right after reset meets every law that steps keep, and with no command it is held in its POWER reset. Released
and loaded, a new part has the factory profile: the trunk up in UPLINK role at 19200 bit/s 8E1, the segments disabled in FIELD
role, an empty rule table, agent address 250 and every cause masked in (R188), and the trunk is sending alert number 1 with
cause RESTARTED (R169). -/
def Obligations.ResetMeetsTheLawsAndComesUp : Prop :=
  (State.reset.pool.lawful ∧ State.reset.countsHolders ∧ State.reset.memoryWf ∧ State.reset.bounded ∧ State.reset.settingsOk ∧
    State.reset.slotsFollowRoles ∧ State.reset.attemptsOk ∧ State.reset.alertsOk ∧ State.reset.pendingWellFormed ∧
    State.reset.holdersOk ∧ State.reset.configOk ∧
    State.reset.supply = .heldPower ∧ State.reset.resetCause = .power) ∧
    ∃ r t, exec .supplyRelease State.reset = .next r ∧ exec .startupLoadCompletion r = .next t ∧
      (t.port .trunk).enabled = true ∧
      (t.port .trunk).settings = ⟨.uplink, 4, .even, false, .check16, 8, none, true⟩ ∧
      (t.port .trunk).rx.state = .idle ∧ (t.port .trunk).tx.state = .sending .alert 0 ∧
      (∀ sg, (t.port (.seg sg)).enabled = false ∧
        (t.port (.seg sg)).settings = ⟨.field, 4, .even, false, .check16, 8, some ⟨100, 200, 50, 20⟩, false⟩ ∧
        (t.port (.seg sg)).rx.state = .off ∧ (t.port (.seg sg)).tx.state = .off ∧ (t.seg sg).slot = .free) ∧
      t.rules = List.replicate 128 none ∧ t.agent.settings = ⟨250#8, CauseSet.full, 1000⟩ ∧ t.store.state = .idle ∧
      t.alert.state = .outstanding ∧ t.alert.sequence = 1#8 ∧
      t.alert.current.map (·.causes) = some ⟨false, false, false, false, true⟩ ∧ t.resetCause = .power
end
end

