-- ==== Sys2Proof/Laws/State.lean ====
section
/-! SUPPORT. What each named update of the state changes and what it leaves, one lemma for each field, and the reading of ports
and segments after an update. -/

namespace Sys2Proof

/-! ### Per-port and per-segment data -/

@[simp] theorem PerSeg.get_set_self {α : Type} (m : PerSeg α) (s : Seg) (x : α) : (m.set s x).get s = x := by
  cases s <;> rfl

@[simp] theorem PerSeg.get_set_ne {α : Type} (m : PerSeg α) {s r : Seg} (h : r ≠ s) (x : α) : (m.set s x).get r = m.get r := by
  cases s <;> cases r <;> first | rfl | exact absurd rfl h

@[simp] theorem PerSeg.get_all {α : Type} (x : α) (s : Seg) : (PerSeg.all x).get s = x := by cases s <;> rfl

@[simp] theorem PerSeg.get_map {α β : Type} (f : α → β) (m : PerSeg α) (s : Seg) : (m.map f).get s = f (m.get s) := by
  cases s <;> rfl

@[ext] theorem PerSeg.ext_get {α : Type} {m n : PerSeg α} (h : ∀ s, m.get s = n.get s) : m = n := by
  have h1 := h .seg1; have h2 := h .seg2; have h3 := h .seg3; have h4 := h .seg4
  cases m; cases n; simp_all [PerSeg.get]

@[simp] theorem PerPort.get_set_self {α : Type} (m : PerPort α) (p : Port) (x : α) : (m.set p x).get p = x := by
  cases p with
  | trunk => rfl
  | seg s => simp [PerPort.get, PerPort.set]

@[simp] theorem PerPort.get_set_ne {α : Type} (m : PerPort α) {p q : Port} (h : q ≠ p) (x : α) :
    (m.set p x).get q = m.get q := by
  cases p with
  | trunk => cases q with
    | trunk => exact absurd rfl h
    | seg r => rfl
  | seg s => cases q with
    | trunk => rfl
    | seg r => exact PerSeg.get_set_ne _ (fun e => h (by rw [e])) _

@[simp] theorem PerPort.get_all {α : Type} (x : α) (p : Port) : (PerPort.all x).get p = x := by
  cases p with
  | trunk => rfl
  | seg s => exact PerSeg.get_all x s

@[simp] theorem PerPort.get_map {α β : Type} (f : α → β) (m : PerPort α) (p : Port) : (m.map f).get p = f (m.get p) := by
  cases p with
  | trunk => rfl
  | seg s => exact PerSeg.get_map f m.segs s

@[ext] theorem PerPort.ext_get {α : Type} {m n : PerPort α} (h : ∀ p, m.get p = n.get p) : m = n := by
  have h0 := h .trunk
  have hs : m.segs = n.segs := PerSeg.ext_get fun s => h (.seg s)
  cases m; cases n; simp_all [PerPort.get]

@[simp] theorem PerSeg.set_set {α : Type} (m : PerSeg α) (s : Seg) (x y : α) : (m.set s x).set s y = m.set s y := by
  cases s <;> rfl

@[simp] theorem PerPort.set_set {α : Type} (m : PerPort α) (p : Port) (x y : α) : (m.set p x).set p y = m.set p y := by
  cases p with
  | trunk => rfl
  | seg s => simp [PerPort.set]

@[simp] theorem PerSeg.set_get_self {α : Type} (m : PerSeg α) (s : Seg) : m.set s (m.get s) = m := by cases s <;> rfl

@[simp] theorem PerPort.set_get_self {α : Type} (m : PerPort α) (p : Port) : m.set p (m.get p) = m := by
  cases p with
  | trunk => rfl
  | seg s => cases s <;> rfl

theorem Port.mem_list (p : Port) : p ∈ Port.list := by
  cases p with
  | trunk => decide
  | seg s => cases s <;> decide

theorem Seg.mem_list (s : Seg) : s ∈ Seg.list := by cases s <;> decide

namespace Machine

/-! ### Fields of the state after an update -/

@[simp] theorem State.withPort_pending (s : State) (p : Port) (x : PortState) : (s.withPort p x).pending = s.pending := rfl
@[simp] theorem State.withPort_now (s : State) (p : Port) (x : PortState) : (s.withPort p x).now = s.now := rfl
@[simp] theorem State.withPort_timeBase (s : State) (p : Port) (x : PortState) : (s.withPort p x).timeBase = s.timeBase := rfl
@[simp] theorem State.withPort_subMicro (s : State) (p : Port) (x : PortState) : (s.withPort p x).subMicro = s.subMicro := rfl
@[simp] theorem State.withPort_clockRunning (s : State) (p : Port) (x : PortState) : (s.withPort p x).clockRunning = s.clockRunning := rfl
@[simp] theorem State.withPort_supply (s : State) (p : Port) (x : PortState) : (s.withPort p x).supply = s.supply := rfl
@[simp] theorem State.withPort_pinHeld (s : State) (p : Port) (x : PortState) : (s.withPort p x).pinHeld = s.pinHeld := rfl
@[simp] theorem State.withPort_resetCause (s : State) (p : Port) (x : PortState) : (s.withPort p x).resetCause = s.resetCause := rfl
@[simp] theorem State.withPort_freeCount (s : State) (p : Port) (x : PortState) : (s.withPort p x).freeCount = s.freeCount := rfl
@[simp] theorem State.withPort_pool (s : State) (p : Port) (x : PortState) : (s.withPort p x).pool = s.pool := rfl
@[simp] theorem State.withPort_segs (s : State) (p : Port) (x : PortState) : (s.withPort p x).segs = s.segs := rfl
@[simp] theorem State.withPort_alertLane (s : State) (p : Port) (x : PortState) : (s.withPort p x).alertLane = s.alertLane := rfl
@[simp] theorem State.withPort_rules (s : State) (p : Port) (x : PortState) : (s.withPort p x).rules = s.rules := rfl
@[simp] theorem State.withPort_agent (s : State) (p : Port) (x : PortState) : (s.withPort p x).agent = s.agent := rfl
@[simp] theorem State.withPort_alert (s : State) (p : Port) (x : PortState) : (s.withPort p x).alert = s.alert := rfl
@[simp] theorem State.withPort_store (s : State) (p : Port) (x : PortState) : (s.withPort p x).store = s.store := rfl

@[simp] theorem State.withSeg_pending (s : State) (sg : Seg) (x : SegState) : (s.withSeg sg x).pending = s.pending := rfl
@[simp] theorem State.withSeg_now (s : State) (sg : Seg) (x : SegState) : (s.withSeg sg x).now = s.now := rfl
@[simp] theorem State.withSeg_timeBase (s : State) (sg : Seg) (x : SegState) : (s.withSeg sg x).timeBase = s.timeBase := rfl
@[simp] theorem State.withSeg_subMicro (s : State) (sg : Seg) (x : SegState) : (s.withSeg sg x).subMicro = s.subMicro := rfl
@[simp] theorem State.withSeg_clockRunning (s : State) (sg : Seg) (x : SegState) : (s.withSeg sg x).clockRunning = s.clockRunning := rfl
@[simp] theorem State.withSeg_supply (s : State) (sg : Seg) (x : SegState) : (s.withSeg sg x).supply = s.supply := rfl
@[simp] theorem State.withSeg_pinHeld (s : State) (sg : Seg) (x : SegState) : (s.withSeg sg x).pinHeld = s.pinHeld := rfl
@[simp] theorem State.withSeg_resetCause (s : State) (sg : Seg) (x : SegState) : (s.withSeg sg x).resetCause = s.resetCause := rfl
@[simp] theorem State.withSeg_freeCount (s : State) (sg : Seg) (x : SegState) : (s.withSeg sg x).freeCount = s.freeCount := rfl
@[simp] theorem State.withSeg_pool (s : State) (sg : Seg) (x : SegState) : (s.withSeg sg x).pool = s.pool := rfl
@[simp] theorem State.withSeg_ports (s : State) (sg : Seg) (x : SegState) : (s.withSeg sg x).ports = s.ports := rfl
@[simp] theorem State.withSeg_alertLane (s : State) (sg : Seg) (x : SegState) : (s.withSeg sg x).alertLane = s.alertLane := rfl
@[simp] theorem State.withSeg_rules (s : State) (sg : Seg) (x : SegState) : (s.withSeg sg x).rules = s.rules := rfl
@[simp] theorem State.withSeg_agent (s : State) (sg : Seg) (x : SegState) : (s.withSeg sg x).agent = s.agent := rfl
@[simp] theorem State.withSeg_alert (s : State) (sg : Seg) (x : SegState) : (s.withSeg sg x).alert = s.alert := rfl
@[simp] theorem State.withSeg_store (s : State) (sg : Seg) (x : SegState) : (s.withSeg sg x).store = s.store := rfl

@[simp] theorem State.withPool_pending (s : State) (x : Pool) : (s.withPool x).pending = s.pending := rfl
@[simp] theorem State.withPool_now (s : State) (x : Pool) : (s.withPool x).now = s.now := rfl
@[simp] theorem State.withPool_timeBase (s : State) (x : Pool) : (s.withPool x).timeBase = s.timeBase := rfl
@[simp] theorem State.withPool_subMicro (s : State) (x : Pool) : (s.withPool x).subMicro = s.subMicro := rfl
@[simp] theorem State.withPool_clockRunning (s : State) (x : Pool) : (s.withPool x).clockRunning = s.clockRunning := rfl
@[simp] theorem State.withPool_supply (s : State) (x : Pool) : (s.withPool x).supply = s.supply := rfl
@[simp] theorem State.withPool_pinHeld (s : State) (x : Pool) : (s.withPool x).pinHeld = s.pinHeld := rfl
@[simp] theorem State.withPool_resetCause (s : State) (x : Pool) : (s.withPool x).resetCause = s.resetCause := rfl
@[simp] theorem State.withPool_freeCount (s : State) (x : Pool) : (s.withPool x).freeCount = s.freeCount := rfl
@[simp] theorem State.withPool_pool (s : State) (x : Pool) : (s.withPool x).pool = x := rfl
@[simp] theorem State.withPool_ports (s : State) (x : Pool) : (s.withPool x).ports = s.ports := rfl
@[simp] theorem State.withPool_segs (s : State) (x : Pool) : (s.withPool x).segs = s.segs := rfl
@[simp] theorem State.withPool_alertLane (s : State) (x : Pool) : (s.withPool x).alertLane = s.alertLane := rfl
@[simp] theorem State.withPool_rules (s : State) (x : Pool) : (s.withPool x).rules = s.rules := rfl
@[simp] theorem State.withPool_agent (s : State) (x : Pool) : (s.withPool x).agent = s.agent := rfl
@[simp] theorem State.withPool_alert (s : State) (x : Pool) : (s.withPool x).alert = s.alert := rfl
@[simp] theorem State.withPool_store (s : State) (x : Pool) : (s.withPool x).store = s.store := rfl

@[simp] theorem State.withAgent_pending (s : State) (x : Agent) : (s.withAgent x).pending = s.pending := rfl
@[simp] theorem State.withAgent_now (s : State) (x : Agent) : (s.withAgent x).now = s.now := rfl
@[simp] theorem State.withAgent_timeBase (s : State) (x : Agent) : (s.withAgent x).timeBase = s.timeBase := rfl
@[simp] theorem State.withAgent_subMicro (s : State) (x : Agent) : (s.withAgent x).subMicro = s.subMicro := rfl
@[simp] theorem State.withAgent_clockRunning (s : State) (x : Agent) : (s.withAgent x).clockRunning = s.clockRunning := rfl
@[simp] theorem State.withAgent_supply (s : State) (x : Agent) : (s.withAgent x).supply = s.supply := rfl
@[simp] theorem State.withAgent_pinHeld (s : State) (x : Agent) : (s.withAgent x).pinHeld = s.pinHeld := rfl
@[simp] theorem State.withAgent_resetCause (s : State) (x : Agent) : (s.withAgent x).resetCause = s.resetCause := rfl
@[simp] theorem State.withAgent_freeCount (s : State) (x : Agent) : (s.withAgent x).freeCount = s.freeCount := rfl
@[simp] theorem State.withAgent_pool (s : State) (x : Agent) : (s.withAgent x).pool = s.pool := rfl
@[simp] theorem State.withAgent_ports (s : State) (x : Agent) : (s.withAgent x).ports = s.ports := rfl
@[simp] theorem State.withAgent_segs (s : State) (x : Agent) : (s.withAgent x).segs = s.segs := rfl
@[simp] theorem State.withAgent_alertLane (s : State) (x : Agent) : (s.withAgent x).alertLane = s.alertLane := rfl
@[simp] theorem State.withAgent_rules (s : State) (x : Agent) : (s.withAgent x).rules = s.rules := rfl
@[simp] theorem State.withAgent_agent (s : State) (x : Agent) : (s.withAgent x).agent = x := rfl
@[simp] theorem State.withAgent_alert (s : State) (x : Agent) : (s.withAgent x).alert = s.alert := rfl
@[simp] theorem State.withAgent_store (s : State) (x : Agent) : (s.withAgent x).store = s.store := rfl

@[simp] theorem State.withAlert_pending (s : State) (x : AlertUnit) : (s.withAlert x).pending = s.pending := rfl
@[simp] theorem State.withAlert_now (s : State) (x : AlertUnit) : (s.withAlert x).now = s.now := rfl
@[simp] theorem State.withAlert_timeBase (s : State) (x : AlertUnit) : (s.withAlert x).timeBase = s.timeBase := rfl
@[simp] theorem State.withAlert_subMicro (s : State) (x : AlertUnit) : (s.withAlert x).subMicro = s.subMicro := rfl
@[simp] theorem State.withAlert_clockRunning (s : State) (x : AlertUnit) : (s.withAlert x).clockRunning = s.clockRunning := rfl
@[simp] theorem State.withAlert_supply (s : State) (x : AlertUnit) : (s.withAlert x).supply = s.supply := rfl
@[simp] theorem State.withAlert_pinHeld (s : State) (x : AlertUnit) : (s.withAlert x).pinHeld = s.pinHeld := rfl
@[simp] theorem State.withAlert_resetCause (s : State) (x : AlertUnit) : (s.withAlert x).resetCause = s.resetCause := rfl
@[simp] theorem State.withAlert_freeCount (s : State) (x : AlertUnit) : (s.withAlert x).freeCount = s.freeCount := rfl
@[simp] theorem State.withAlert_pool (s : State) (x : AlertUnit) : (s.withAlert x).pool = s.pool := rfl
@[simp] theorem State.withAlert_ports (s : State) (x : AlertUnit) : (s.withAlert x).ports = s.ports := rfl
@[simp] theorem State.withAlert_segs (s : State) (x : AlertUnit) : (s.withAlert x).segs = s.segs := rfl
@[simp] theorem State.withAlert_alertLane (s : State) (x : AlertUnit) : (s.withAlert x).alertLane = s.alertLane := rfl
@[simp] theorem State.withAlert_rules (s : State) (x : AlertUnit) : (s.withAlert x).rules = s.rules := rfl
@[simp] theorem State.withAlert_agent (s : State) (x : AlertUnit) : (s.withAlert x).agent = s.agent := rfl
@[simp] theorem State.withAlert_alert (s : State) (x : AlertUnit) : (s.withAlert x).alert = x := rfl
@[simp] theorem State.withAlert_store (s : State) (x : AlertUnit) : (s.withAlert x).store = s.store := rfl

@[simp] theorem State.withAlertLane_pending (s : State) (x : Option (List Byte)) : (s.withAlertLane x).pending = s.pending := rfl
@[simp] theorem State.withAlertLane_now (s : State) (x : Option (List Byte)) : (s.withAlertLane x).now = s.now := rfl
@[simp] theorem State.withAlertLane_timeBase (s : State) (x : Option (List Byte)) : (s.withAlertLane x).timeBase = s.timeBase := rfl
@[simp] theorem State.withAlertLane_subMicro (s : State) (x : Option (List Byte)) : (s.withAlertLane x).subMicro = s.subMicro := rfl
@[simp] theorem State.withAlertLane_clockRunning (s : State) (x : Option (List Byte)) : (s.withAlertLane x).clockRunning = s.clockRunning := rfl
@[simp] theorem State.withAlertLane_supply (s : State) (x : Option (List Byte)) : (s.withAlertLane x).supply = s.supply := rfl
@[simp] theorem State.withAlertLane_pinHeld (s : State) (x : Option (List Byte)) : (s.withAlertLane x).pinHeld = s.pinHeld := rfl
@[simp] theorem State.withAlertLane_resetCause (s : State) (x : Option (List Byte)) : (s.withAlertLane x).resetCause = s.resetCause := rfl
@[simp] theorem State.withAlertLane_freeCount (s : State) (x : Option (List Byte)) : (s.withAlertLane x).freeCount = s.freeCount := rfl
@[simp] theorem State.withAlertLane_pool (s : State) (x : Option (List Byte)) : (s.withAlertLane x).pool = s.pool := rfl
@[simp] theorem State.withAlertLane_ports (s : State) (x : Option (List Byte)) : (s.withAlertLane x).ports = s.ports := rfl
@[simp] theorem State.withAlertLane_segs (s : State) (x : Option (List Byte)) : (s.withAlertLane x).segs = s.segs := rfl
@[simp] theorem State.withAlertLane_alertLane (s : State) (x : Option (List Byte)) : (s.withAlertLane x).alertLane = x := rfl
@[simp] theorem State.withAlertLane_rules (s : State) (x : Option (List Byte)) : (s.withAlertLane x).rules = s.rules := rfl
@[simp] theorem State.withAlertLane_agent (s : State) (x : Option (List Byte)) : (s.withAlertLane x).agent = s.agent := rfl
@[simp] theorem State.withAlertLane_alert (s : State) (x : Option (List Byte)) : (s.withAlertLane x).alert = s.alert := rfl
@[simp] theorem State.withAlertLane_store (s : State) (x : Option (List Byte)) : (s.withAlertLane x).store = s.store := rfl

@[simp] theorem State.withStore_pending (s : State) (x : Store) : (s.withStore x).pending = s.pending := rfl
@[simp] theorem State.withStore_now (s : State) (x : Store) : (s.withStore x).now = s.now := rfl
@[simp] theorem State.withStore_timeBase (s : State) (x : Store) : (s.withStore x).timeBase = s.timeBase := rfl
@[simp] theorem State.withStore_subMicro (s : State) (x : Store) : (s.withStore x).subMicro = s.subMicro := rfl
@[simp] theorem State.withStore_clockRunning (s : State) (x : Store) : (s.withStore x).clockRunning = s.clockRunning := rfl
@[simp] theorem State.withStore_supply (s : State) (x : Store) : (s.withStore x).supply = s.supply := rfl
@[simp] theorem State.withStore_pinHeld (s : State) (x : Store) : (s.withStore x).pinHeld = s.pinHeld := rfl
@[simp] theorem State.withStore_resetCause (s : State) (x : Store) : (s.withStore x).resetCause = s.resetCause := rfl
@[simp] theorem State.withStore_freeCount (s : State) (x : Store) : (s.withStore x).freeCount = s.freeCount := rfl
@[simp] theorem State.withStore_pool (s : State) (x : Store) : (s.withStore x).pool = s.pool := rfl
@[simp] theorem State.withStore_ports (s : State) (x : Store) : (s.withStore x).ports = s.ports := rfl
@[simp] theorem State.withStore_segs (s : State) (x : Store) : (s.withStore x).segs = s.segs := rfl
@[simp] theorem State.withStore_alertLane (s : State) (x : Store) : (s.withStore x).alertLane = s.alertLane := rfl
@[simp] theorem State.withStore_rules (s : State) (x : Store) : (s.withStore x).rules = s.rules := rfl
@[simp] theorem State.withStore_agent (s : State) (x : Store) : (s.withStore x).agent = s.agent := rfl
@[simp] theorem State.withStore_alert (s : State) (x : Store) : (s.withStore x).alert = s.alert := rfl
@[simp] theorem State.withStore_store (s : State) (x : Store) : (s.withStore x).store = x := rfl

@[simp] theorem State.withRules_pending (s : State) (x : List (Option Entry)) : (s.withRules x).pending = s.pending := rfl
@[simp] theorem State.withRules_now (s : State) (x : List (Option Entry)) : (s.withRules x).now = s.now := rfl
@[simp] theorem State.withRules_timeBase (s : State) (x : List (Option Entry)) : (s.withRules x).timeBase = s.timeBase := rfl
@[simp] theorem State.withRules_subMicro (s : State) (x : List (Option Entry)) : (s.withRules x).subMicro = s.subMicro := rfl
@[simp] theorem State.withRules_clockRunning (s : State) (x : List (Option Entry)) : (s.withRules x).clockRunning = s.clockRunning := rfl
@[simp] theorem State.withRules_supply (s : State) (x : List (Option Entry)) : (s.withRules x).supply = s.supply := rfl
@[simp] theorem State.withRules_pinHeld (s : State) (x : List (Option Entry)) : (s.withRules x).pinHeld = s.pinHeld := rfl
@[simp] theorem State.withRules_resetCause (s : State) (x : List (Option Entry)) : (s.withRules x).resetCause = s.resetCause := rfl
@[simp] theorem State.withRules_freeCount (s : State) (x : List (Option Entry)) : (s.withRules x).freeCount = s.freeCount := rfl
@[simp] theorem State.withRules_pool (s : State) (x : List (Option Entry)) : (s.withRules x).pool = s.pool := rfl
@[simp] theorem State.withRules_ports (s : State) (x : List (Option Entry)) : (s.withRules x).ports = s.ports := rfl
@[simp] theorem State.withRules_segs (s : State) (x : List (Option Entry)) : (s.withRules x).segs = s.segs := rfl
@[simp] theorem State.withRules_alertLane (s : State) (x : List (Option Entry)) : (s.withRules x).alertLane = s.alertLane := rfl
@[simp] theorem State.withRules_rules (s : State) (x : List (Option Entry)) : (s.withRules x).rules = x := rfl
@[simp] theorem State.withRules_agent (s : State) (x : List (Option Entry)) : (s.withRules x).agent = s.agent := rfl
@[simp] theorem State.withRules_alert (s : State) (x : List (Option Entry)) : (s.withRules x).alert = s.alert := rfl
@[simp] theorem State.withRules_store (s : State) (x : List (Option Entry)) : (s.withRules x).store = s.store := rfl

@[simp] theorem State.withPending_pending (s : State) (x : List Instr) : (s.withPending x).pending = x := rfl
@[simp] theorem State.withPending_now (s : State) (x : List Instr) : (s.withPending x).now = s.now := rfl
@[simp] theorem State.withPending_timeBase (s : State) (x : List Instr) : (s.withPending x).timeBase = s.timeBase := rfl
@[simp] theorem State.withPending_subMicro (s : State) (x : List Instr) : (s.withPending x).subMicro = s.subMicro := rfl
@[simp] theorem State.withPending_clockRunning (s : State) (x : List Instr) : (s.withPending x).clockRunning = s.clockRunning := rfl
@[simp] theorem State.withPending_supply (s : State) (x : List Instr) : (s.withPending x).supply = s.supply := rfl
@[simp] theorem State.withPending_pinHeld (s : State) (x : List Instr) : (s.withPending x).pinHeld = s.pinHeld := rfl
@[simp] theorem State.withPending_resetCause (s : State) (x : List Instr) : (s.withPending x).resetCause = s.resetCause := rfl
@[simp] theorem State.withPending_freeCount (s : State) (x : List Instr) : (s.withPending x).freeCount = s.freeCount := rfl
@[simp] theorem State.withPending_pool (s : State) (x : List Instr) : (s.withPending x).pool = s.pool := rfl
@[simp] theorem State.withPending_ports (s : State) (x : List Instr) : (s.withPending x).ports = s.ports := rfl
@[simp] theorem State.withPending_segs (s : State) (x : List Instr) : (s.withPending x).segs = s.segs := rfl
@[simp] theorem State.withPending_alertLane (s : State) (x : List Instr) : (s.withPending x).alertLane = s.alertLane := rfl
@[simp] theorem State.withPending_rules (s : State) (x : List Instr) : (s.withPending x).rules = s.rules := rfl
@[simp] theorem State.withPending_agent (s : State) (x : List Instr) : (s.withPending x).agent = s.agent := rfl
@[simp] theorem State.withPending_alert (s : State) (x : List Instr) : (s.withPending x).alert = s.alert := rfl
@[simp] theorem State.withPending_store (s : State) (x : List Instr) : (s.withPending x).store = s.store := rfl

@[simp] theorem State.withRx_pending (s : State) (p : Port) (x : Receiver) : (s.withRx p x).pending = s.pending := rfl
@[simp] theorem State.withRx_now (s : State) (p : Port) (x : Receiver) : (s.withRx p x).now = s.now := rfl
@[simp] theorem State.withRx_timeBase (s : State) (p : Port) (x : Receiver) : (s.withRx p x).timeBase = s.timeBase := rfl
@[simp] theorem State.withRx_subMicro (s : State) (p : Port) (x : Receiver) : (s.withRx p x).subMicro = s.subMicro := rfl
@[simp] theorem State.withRx_clockRunning (s : State) (p : Port) (x : Receiver) : (s.withRx p x).clockRunning = s.clockRunning := rfl
@[simp] theorem State.withRx_supply (s : State) (p : Port) (x : Receiver) : (s.withRx p x).supply = s.supply := rfl
@[simp] theorem State.withRx_pinHeld (s : State) (p : Port) (x : Receiver) : (s.withRx p x).pinHeld = s.pinHeld := rfl
@[simp] theorem State.withRx_resetCause (s : State) (p : Port) (x : Receiver) : (s.withRx p x).resetCause = s.resetCause := rfl
@[simp] theorem State.withRx_freeCount (s : State) (p : Port) (x : Receiver) : (s.withRx p x).freeCount = s.freeCount := rfl
@[simp] theorem State.withRx_pool (s : State) (p : Port) (x : Receiver) : (s.withRx p x).pool = s.pool := rfl
@[simp] theorem State.withRx_segs (s : State) (p : Port) (x : Receiver) : (s.withRx p x).segs = s.segs := rfl
@[simp] theorem State.withRx_alertLane (s : State) (p : Port) (x : Receiver) : (s.withRx p x).alertLane = s.alertLane := rfl
@[simp] theorem State.withRx_rules (s : State) (p : Port) (x : Receiver) : (s.withRx p x).rules = s.rules := rfl
@[simp] theorem State.withRx_agent (s : State) (p : Port) (x : Receiver) : (s.withRx p x).agent = s.agent := rfl
@[simp] theorem State.withRx_alert (s : State) (p : Port) (x : Receiver) : (s.withRx p x).alert = s.alert := rfl
@[simp] theorem State.withRx_store (s : State) (p : Port) (x : Receiver) : (s.withRx p x).store = s.store := rfl

@[simp] theorem State.withTx_pending (s : State) (p : Port) (x : Transmitter) : (s.withTx p x).pending = s.pending := rfl
@[simp] theorem State.withTx_now (s : State) (p : Port) (x : Transmitter) : (s.withTx p x).now = s.now := rfl
@[simp] theorem State.withTx_timeBase (s : State) (p : Port) (x : Transmitter) : (s.withTx p x).timeBase = s.timeBase := rfl
@[simp] theorem State.withTx_subMicro (s : State) (p : Port) (x : Transmitter) : (s.withTx p x).subMicro = s.subMicro := rfl
@[simp] theorem State.withTx_clockRunning (s : State) (p : Port) (x : Transmitter) : (s.withTx p x).clockRunning = s.clockRunning := rfl
@[simp] theorem State.withTx_supply (s : State) (p : Port) (x : Transmitter) : (s.withTx p x).supply = s.supply := rfl
@[simp] theorem State.withTx_pinHeld (s : State) (p : Port) (x : Transmitter) : (s.withTx p x).pinHeld = s.pinHeld := rfl
@[simp] theorem State.withTx_resetCause (s : State) (p : Port) (x : Transmitter) : (s.withTx p x).resetCause = s.resetCause := rfl
@[simp] theorem State.withTx_freeCount (s : State) (p : Port) (x : Transmitter) : (s.withTx p x).freeCount = s.freeCount := rfl
@[simp] theorem State.withTx_pool (s : State) (p : Port) (x : Transmitter) : (s.withTx p x).pool = s.pool := rfl
@[simp] theorem State.withTx_segs (s : State) (p : Port) (x : Transmitter) : (s.withTx p x).segs = s.segs := rfl
@[simp] theorem State.withTx_alertLane (s : State) (p : Port) (x : Transmitter) : (s.withTx p x).alertLane = s.alertLane := rfl
@[simp] theorem State.withTx_rules (s : State) (p : Port) (x : Transmitter) : (s.withTx p x).rules = s.rules := rfl
@[simp] theorem State.withTx_agent (s : State) (p : Port) (x : Transmitter) : (s.withTx p x).agent = s.agent := rfl
@[simp] theorem State.withTx_alert (s : State) (p : Port) (x : Transmitter) : (s.withTx p x).alert = s.alert := rfl
@[simp] theorem State.withTx_store (s : State) (p : Port) (x : Transmitter) : (s.withTx p x).store = s.store := rfl

@[simp] theorem State.withQueue_pending (s : State) (p : Port) (x : TxQueue) : (s.withQueue p x).pending = s.pending := rfl
@[simp] theorem State.withQueue_now (s : State) (p : Port) (x : TxQueue) : (s.withQueue p x).now = s.now := rfl
@[simp] theorem State.withQueue_timeBase (s : State) (p : Port) (x : TxQueue) : (s.withQueue p x).timeBase = s.timeBase := rfl
@[simp] theorem State.withQueue_subMicro (s : State) (p : Port) (x : TxQueue) : (s.withQueue p x).subMicro = s.subMicro := rfl
@[simp] theorem State.withQueue_clockRunning (s : State) (p : Port) (x : TxQueue) : (s.withQueue p x).clockRunning = s.clockRunning := rfl
@[simp] theorem State.withQueue_supply (s : State) (p : Port) (x : TxQueue) : (s.withQueue p x).supply = s.supply := rfl
@[simp] theorem State.withQueue_pinHeld (s : State) (p : Port) (x : TxQueue) : (s.withQueue p x).pinHeld = s.pinHeld := rfl
@[simp] theorem State.withQueue_resetCause (s : State) (p : Port) (x : TxQueue) : (s.withQueue p x).resetCause = s.resetCause := rfl
@[simp] theorem State.withQueue_freeCount (s : State) (p : Port) (x : TxQueue) : (s.withQueue p x).freeCount = s.freeCount := rfl
@[simp] theorem State.withQueue_pool (s : State) (p : Port) (x : TxQueue) : (s.withQueue p x).pool = s.pool := rfl
@[simp] theorem State.withQueue_segs (s : State) (p : Port) (x : TxQueue) : (s.withQueue p x).segs = s.segs := rfl
@[simp] theorem State.withQueue_alertLane (s : State) (p : Port) (x : TxQueue) : (s.withQueue p x).alertLane = s.alertLane := rfl
@[simp] theorem State.withQueue_rules (s : State) (p : Port) (x : TxQueue) : (s.withQueue p x).rules = s.rules := rfl
@[simp] theorem State.withQueue_agent (s : State) (p : Port) (x : TxQueue) : (s.withQueue p x).agent = s.agent := rfl
@[simp] theorem State.withQueue_alert (s : State) (p : Port) (x : TxQueue) : (s.withQueue p x).alert = s.alert := rfl
@[simp] theorem State.withQueue_store (s : State) (p : Port) (x : TxQueue) : (s.withQueue p x).store = s.store := rfl

@[simp] theorem State.withLane_pending (s : State) (p : Port) (x : Option Reply) : (s.withLane p x).pending = s.pending := rfl
@[simp] theorem State.withLane_now (s : State) (p : Port) (x : Option Reply) : (s.withLane p x).now = s.now := rfl
@[simp] theorem State.withLane_timeBase (s : State) (p : Port) (x : Option Reply) : (s.withLane p x).timeBase = s.timeBase := rfl
@[simp] theorem State.withLane_subMicro (s : State) (p : Port) (x : Option Reply) : (s.withLane p x).subMicro = s.subMicro := rfl
@[simp] theorem State.withLane_clockRunning (s : State) (p : Port) (x : Option Reply) : (s.withLane p x).clockRunning = s.clockRunning := rfl
@[simp] theorem State.withLane_supply (s : State) (p : Port) (x : Option Reply) : (s.withLane p x).supply = s.supply := rfl
@[simp] theorem State.withLane_pinHeld (s : State) (p : Port) (x : Option Reply) : (s.withLane p x).pinHeld = s.pinHeld := rfl
@[simp] theorem State.withLane_resetCause (s : State) (p : Port) (x : Option Reply) : (s.withLane p x).resetCause = s.resetCause := rfl
@[simp] theorem State.withLane_freeCount (s : State) (p : Port) (x : Option Reply) : (s.withLane p x).freeCount = s.freeCount := rfl
@[simp] theorem State.withLane_pool (s : State) (p : Port) (x : Option Reply) : (s.withLane p x).pool = s.pool := rfl
@[simp] theorem State.withLane_segs (s : State) (p : Port) (x : Option Reply) : (s.withLane p x).segs = s.segs := rfl
@[simp] theorem State.withLane_alertLane (s : State) (p : Port) (x : Option Reply) : (s.withLane p x).alertLane = s.alertLane := rfl
@[simp] theorem State.withLane_rules (s : State) (p : Port) (x : Option Reply) : (s.withLane p x).rules = s.rules := rfl
@[simp] theorem State.withLane_agent (s : State) (p : Port) (x : Option Reply) : (s.withLane p x).agent = s.agent := rfl
@[simp] theorem State.withLane_alert (s : State) (p : Port) (x : Option Reply) : (s.withLane p x).alert = s.alert := rfl
@[simp] theorem State.withLane_store (s : State) (p : Port) (x : Option Reply) : (s.withLane p x).store = s.store := rfl

@[simp] theorem State.withGuard_pending (s : State) (p : Port) (x : Option Nat) : (s.withGuard p x).pending = s.pending := rfl
@[simp] theorem State.withGuard_now (s : State) (p : Port) (x : Option Nat) : (s.withGuard p x).now = s.now := rfl
@[simp] theorem State.withGuard_timeBase (s : State) (p : Port) (x : Option Nat) : (s.withGuard p x).timeBase = s.timeBase := rfl
@[simp] theorem State.withGuard_subMicro (s : State) (p : Port) (x : Option Nat) : (s.withGuard p x).subMicro = s.subMicro := rfl
@[simp] theorem State.withGuard_clockRunning (s : State) (p : Port) (x : Option Nat) : (s.withGuard p x).clockRunning = s.clockRunning := rfl
@[simp] theorem State.withGuard_supply (s : State) (p : Port) (x : Option Nat) : (s.withGuard p x).supply = s.supply := rfl
@[simp] theorem State.withGuard_pinHeld (s : State) (p : Port) (x : Option Nat) : (s.withGuard p x).pinHeld = s.pinHeld := rfl
@[simp] theorem State.withGuard_resetCause (s : State) (p : Port) (x : Option Nat) : (s.withGuard p x).resetCause = s.resetCause := rfl
@[simp] theorem State.withGuard_freeCount (s : State) (p : Port) (x : Option Nat) : (s.withGuard p x).freeCount = s.freeCount := rfl
@[simp] theorem State.withGuard_pool (s : State) (p : Port) (x : Option Nat) : (s.withGuard p x).pool = s.pool := rfl
@[simp] theorem State.withGuard_segs (s : State) (p : Port) (x : Option Nat) : (s.withGuard p x).segs = s.segs := rfl
@[simp] theorem State.withGuard_alertLane (s : State) (p : Port) (x : Option Nat) : (s.withGuard p x).alertLane = s.alertLane := rfl
@[simp] theorem State.withGuard_rules (s : State) (p : Port) (x : Option Nat) : (s.withGuard p x).rules = s.rules := rfl
@[simp] theorem State.withGuard_agent (s : State) (p : Port) (x : Option Nat) : (s.withGuard p x).agent = s.agent := rfl
@[simp] theorem State.withGuard_alert (s : State) (p : Port) (x : Option Nat) : (s.withGuard p x).alert = s.alert := rfl
@[simp] theorem State.withGuard_store (s : State) (p : Port) (x : Option Nat) : (s.withGuard p x).store = s.store := rfl

@[simp] theorem State.withPendingSettings_pending (s : State) (p : Port) (x : Option Settings) : (s.withPendingSettings p x).pending = s.pending := rfl
@[simp] theorem State.withPendingSettings_now (s : State) (p : Port) (x : Option Settings) : (s.withPendingSettings p x).now = s.now := rfl
@[simp] theorem State.withPendingSettings_timeBase (s : State) (p : Port) (x : Option Settings) : (s.withPendingSettings p x).timeBase = s.timeBase := rfl
@[simp] theorem State.withPendingSettings_subMicro (s : State) (p : Port) (x : Option Settings) : (s.withPendingSettings p x).subMicro = s.subMicro := rfl
@[simp] theorem State.withPendingSettings_clockRunning (s : State) (p : Port) (x : Option Settings) : (s.withPendingSettings p x).clockRunning = s.clockRunning := rfl
@[simp] theorem State.withPendingSettings_supply (s : State) (p : Port) (x : Option Settings) : (s.withPendingSettings p x).supply = s.supply := rfl
@[simp] theorem State.withPendingSettings_pinHeld (s : State) (p : Port) (x : Option Settings) : (s.withPendingSettings p x).pinHeld = s.pinHeld := rfl
@[simp] theorem State.withPendingSettings_resetCause (s : State) (p : Port) (x : Option Settings) : (s.withPendingSettings p x).resetCause = s.resetCause := rfl
@[simp] theorem State.withPendingSettings_freeCount (s : State) (p : Port) (x : Option Settings) : (s.withPendingSettings p x).freeCount = s.freeCount := rfl
@[simp] theorem State.withPendingSettings_pool (s : State) (p : Port) (x : Option Settings) : (s.withPendingSettings p x).pool = s.pool := rfl
@[simp] theorem State.withPendingSettings_segs (s : State) (p : Port) (x : Option Settings) : (s.withPendingSettings p x).segs = s.segs := rfl
@[simp] theorem State.withPendingSettings_alertLane (s : State) (p : Port) (x : Option Settings) : (s.withPendingSettings p x).alertLane = s.alertLane := rfl
@[simp] theorem State.withPendingSettings_rules (s : State) (p : Port) (x : Option Settings) : (s.withPendingSettings p x).rules = s.rules := rfl
@[simp] theorem State.withPendingSettings_agent (s : State) (p : Port) (x : Option Settings) : (s.withPendingSettings p x).agent = s.agent := rfl
@[simp] theorem State.withPendingSettings_alert (s : State) (p : Port) (x : Option Settings) : (s.withPendingSettings p x).alert = s.alert := rfl
@[simp] theorem State.withPendingSettings_store (s : State) (p : Port) (x : Option Settings) : (s.withPendingSettings p x).store = s.store := rfl

@[simp] theorem State.withSnapshot_pending (s : State) (p : Port) (x : Option Snapshot) : (s.withSnapshot p x).pending = s.pending := rfl
@[simp] theorem State.withSnapshot_now (s : State) (p : Port) (x : Option Snapshot) : (s.withSnapshot p x).now = s.now := rfl
@[simp] theorem State.withSnapshot_timeBase (s : State) (p : Port) (x : Option Snapshot) : (s.withSnapshot p x).timeBase = s.timeBase := rfl
@[simp] theorem State.withSnapshot_subMicro (s : State) (p : Port) (x : Option Snapshot) : (s.withSnapshot p x).subMicro = s.subMicro := rfl
@[simp] theorem State.withSnapshot_clockRunning (s : State) (p : Port) (x : Option Snapshot) : (s.withSnapshot p x).clockRunning = s.clockRunning := rfl
@[simp] theorem State.withSnapshot_supply (s : State) (p : Port) (x : Option Snapshot) : (s.withSnapshot p x).supply = s.supply := rfl
@[simp] theorem State.withSnapshot_pinHeld (s : State) (p : Port) (x : Option Snapshot) : (s.withSnapshot p x).pinHeld = s.pinHeld := rfl
@[simp] theorem State.withSnapshot_resetCause (s : State) (p : Port) (x : Option Snapshot) : (s.withSnapshot p x).resetCause = s.resetCause := rfl
@[simp] theorem State.withSnapshot_freeCount (s : State) (p : Port) (x : Option Snapshot) : (s.withSnapshot p x).freeCount = s.freeCount := rfl
@[simp] theorem State.withSnapshot_pool (s : State) (p : Port) (x : Option Snapshot) : (s.withSnapshot p x).pool = s.pool := rfl
@[simp] theorem State.withSnapshot_segs (s : State) (p : Port) (x : Option Snapshot) : (s.withSnapshot p x).segs = s.segs := rfl
@[simp] theorem State.withSnapshot_alertLane (s : State) (p : Port) (x : Option Snapshot) : (s.withSnapshot p x).alertLane = s.alertLane := rfl
@[simp] theorem State.withSnapshot_rules (s : State) (p : Port) (x : Option Snapshot) : (s.withSnapshot p x).rules = s.rules := rfl
@[simp] theorem State.withSnapshot_agent (s : State) (p : Port) (x : Option Snapshot) : (s.withSnapshot p x).agent = s.agent := rfl
@[simp] theorem State.withSnapshot_alert (s : State) (p : Port) (x : Option Snapshot) : (s.withSnapshot p x).alert = s.alert := rfl
@[simp] theorem State.withSnapshot_store (s : State) (p : Port) (x : Option Snapshot) : (s.withSnapshot p x).store = s.store := rfl

@[simp] theorem State.count_pending (s : State) (p : Port) (k : PortCounter) : (s.count p k).pending = s.pending := rfl
@[simp] theorem State.count_now (s : State) (p : Port) (k : PortCounter) : (s.count p k).now = s.now := rfl
@[simp] theorem State.count_timeBase (s : State) (p : Port) (k : PortCounter) : (s.count p k).timeBase = s.timeBase := rfl
@[simp] theorem State.count_subMicro (s : State) (p : Port) (k : PortCounter) : (s.count p k).subMicro = s.subMicro := rfl
@[simp] theorem State.count_clockRunning (s : State) (p : Port) (k : PortCounter) : (s.count p k).clockRunning = s.clockRunning := rfl
@[simp] theorem State.count_supply (s : State) (p : Port) (k : PortCounter) : (s.count p k).supply = s.supply := rfl
@[simp] theorem State.count_pinHeld (s : State) (p : Port) (k : PortCounter) : (s.count p k).pinHeld = s.pinHeld := rfl
@[simp] theorem State.count_resetCause (s : State) (p : Port) (k : PortCounter) : (s.count p k).resetCause = s.resetCause := rfl
@[simp] theorem State.count_freeCount (s : State) (p : Port) (k : PortCounter) : (s.count p k).freeCount = s.freeCount := rfl
@[simp] theorem State.count_pool (s : State) (p : Port) (k : PortCounter) : (s.count p k).pool = s.pool := rfl
@[simp] theorem State.count_segs (s : State) (p : Port) (k : PortCounter) : (s.count p k).segs = s.segs := rfl
@[simp] theorem State.count_alertLane (s : State) (p : Port) (k : PortCounter) : (s.count p k).alertLane = s.alertLane := rfl
@[simp] theorem State.count_rules (s : State) (p : Port) (k : PortCounter) : (s.count p k).rules = s.rules := rfl
@[simp] theorem State.count_agent (s : State) (p : Port) (k : PortCounter) : (s.count p k).agent = s.agent := rfl
@[simp] theorem State.count_alert (s : State) (p : Port) (k : PortCounter) : (s.count p k).alert = s.alert := rfl
@[simp] theorem State.count_store (s : State) (p : Port) (k : PortCounter) : (s.count p k).store = s.store := rfl

@[simp] theorem State.withSlot_pending (s : State) (sg : Seg) (x : Slot) : (s.withSlot sg x).pending = s.pending := rfl
@[simp] theorem State.withSlot_now (s : State) (sg : Seg) (x : Slot) : (s.withSlot sg x).now = s.now := rfl
@[simp] theorem State.withSlot_timeBase (s : State) (sg : Seg) (x : Slot) : (s.withSlot sg x).timeBase = s.timeBase := rfl
@[simp] theorem State.withSlot_subMicro (s : State) (sg : Seg) (x : Slot) : (s.withSlot sg x).subMicro = s.subMicro := rfl
@[simp] theorem State.withSlot_clockRunning (s : State) (sg : Seg) (x : Slot) : (s.withSlot sg x).clockRunning = s.clockRunning := rfl
@[simp] theorem State.withSlot_supply (s : State) (sg : Seg) (x : Slot) : (s.withSlot sg x).supply = s.supply := rfl
@[simp] theorem State.withSlot_pinHeld (s : State) (sg : Seg) (x : Slot) : (s.withSlot sg x).pinHeld = s.pinHeld := rfl
@[simp] theorem State.withSlot_resetCause (s : State) (sg : Seg) (x : Slot) : (s.withSlot sg x).resetCause = s.resetCause := rfl
@[simp] theorem State.withSlot_freeCount (s : State) (sg : Seg) (x : Slot) : (s.withSlot sg x).freeCount = s.freeCount := rfl
@[simp] theorem State.withSlot_pool (s : State) (sg : Seg) (x : Slot) : (s.withSlot sg x).pool = s.pool := rfl
@[simp] theorem State.withSlot_ports (s : State) (sg : Seg) (x : Slot) : (s.withSlot sg x).ports = s.ports := rfl
@[simp] theorem State.withSlot_alertLane (s : State) (sg : Seg) (x : Slot) : (s.withSlot sg x).alertLane = s.alertLane := rfl
@[simp] theorem State.withSlot_rules (s : State) (sg : Seg) (x : Slot) : (s.withSlot sg x).rules = s.rules := rfl
@[simp] theorem State.withSlot_agent (s : State) (sg : Seg) (x : Slot) : (s.withSlot sg x).agent = s.agent := rfl
@[simp] theorem State.withSlot_alert (s : State) (sg : Seg) (x : Slot) : (s.withSlot sg x).alert = s.alert := rfl
@[simp] theorem State.withSlot_store (s : State) (sg : Seg) (x : Slot) : (s.withSlot sg x).store = s.store := rfl

@[simp] theorem State.countExchange_pending (s : State) (sg : Seg) (k : ExchangeCounter) : (s.countExchange sg k).pending = s.pending := rfl
@[simp] theorem State.countExchange_now (s : State) (sg : Seg) (k : ExchangeCounter) : (s.countExchange sg k).now = s.now := rfl
@[simp] theorem State.countExchange_timeBase (s : State) (sg : Seg) (k : ExchangeCounter) : (s.countExchange sg k).timeBase = s.timeBase := rfl
@[simp] theorem State.countExchange_subMicro (s : State) (sg : Seg) (k : ExchangeCounter) : (s.countExchange sg k).subMicro = s.subMicro := rfl
@[simp] theorem State.countExchange_clockRunning (s : State) (sg : Seg) (k : ExchangeCounter) : (s.countExchange sg k).clockRunning = s.clockRunning := rfl
@[simp] theorem State.countExchange_supply (s : State) (sg : Seg) (k : ExchangeCounter) : (s.countExchange sg k).supply = s.supply := rfl
@[simp] theorem State.countExchange_pinHeld (s : State) (sg : Seg) (k : ExchangeCounter) : (s.countExchange sg k).pinHeld = s.pinHeld := rfl
@[simp] theorem State.countExchange_resetCause (s : State) (sg : Seg) (k : ExchangeCounter) : (s.countExchange sg k).resetCause = s.resetCause := rfl
@[simp] theorem State.countExchange_freeCount (s : State) (sg : Seg) (k : ExchangeCounter) : (s.countExchange sg k).freeCount = s.freeCount := rfl
@[simp] theorem State.countExchange_pool (s : State) (sg : Seg) (k : ExchangeCounter) : (s.countExchange sg k).pool = s.pool := rfl
@[simp] theorem State.countExchange_ports (s : State) (sg : Seg) (k : ExchangeCounter) : (s.countExchange sg k).ports = s.ports := rfl
@[simp] theorem State.countExchange_alertLane (s : State) (sg : Seg) (k : ExchangeCounter) : (s.countExchange sg k).alertLane = s.alertLane := rfl
@[simp] theorem State.countExchange_rules (s : State) (sg : Seg) (k : ExchangeCounter) : (s.countExchange sg k).rules = s.rules := rfl
@[simp] theorem State.countExchange_agent (s : State) (sg : Seg) (k : ExchangeCounter) : (s.countExchange sg k).agent = s.agent := rfl
@[simp] theorem State.countExchange_alert (s : State) (sg : Seg) (k : ExchangeCounter) : (s.countExchange sg k).alert = s.alert := rfl
@[simp] theorem State.countExchange_store (s : State) (sg : Seg) (k : ExchangeCounter) : (s.countExchange sg k).store = s.store := rfl

/-! ### Ports and segments after an update -/

@[simp] theorem State.withPort_port_ne (s : State) (p : Port) (x : PortState) {q : Port} (h : q ≠ p) : (s.withPort p x).port q = s.port q := by
  simp [State.withPort, State.withPort, State.port, h]
@[simp] theorem State.withPort_seg (s : State) (p : Port) (x : PortState) (r : Seg) : (s.withPort p x).seg r = s.seg r := rfl
@[simp] theorem State.withSeg_port (s : State) (sg : Seg) (x : SegState) (q : Port) : (s.withSeg sg x).port q = s.port q := rfl
@[simp] theorem State.withSeg_seg_ne (s : State) (sg : Seg) (x : SegState) {r : Seg} (h : r ≠ sg) : (s.withSeg sg x).seg r = s.seg r := by
  simp [State.withSeg, State.withSeg, State.seg, h]
@[simp] theorem State.withPool_port (s : State) (x : Pool) (q : Port) : (s.withPool x).port q = s.port q := rfl
@[simp] theorem State.withPool_seg (s : State) (x : Pool) (r : Seg) : (s.withPool x).seg r = s.seg r := rfl
@[simp] theorem State.withAgent_port (s : State) (x : Agent) (q : Port) : (s.withAgent x).port q = s.port q := rfl
@[simp] theorem State.withAgent_seg (s : State) (x : Agent) (r : Seg) : (s.withAgent x).seg r = s.seg r := rfl
@[simp] theorem State.withAlert_port (s : State) (x : AlertUnit) (q : Port) : (s.withAlert x).port q = s.port q := rfl
@[simp] theorem State.withAlert_seg (s : State) (x : AlertUnit) (r : Seg) : (s.withAlert x).seg r = s.seg r := rfl
@[simp] theorem State.withAlertLane_port (s : State) (x : Option (List Byte)) (q : Port) : (s.withAlertLane x).port q = s.port q := rfl
@[simp] theorem State.withAlertLane_seg (s : State) (x : Option (List Byte)) (r : Seg) : (s.withAlertLane x).seg r = s.seg r := rfl
@[simp] theorem State.withStore_port (s : State) (x : Store) (q : Port) : (s.withStore x).port q = s.port q := rfl
@[simp] theorem State.withStore_seg (s : State) (x : Store) (r : Seg) : (s.withStore x).seg r = s.seg r := rfl
@[simp] theorem State.withRules_port (s : State) (x : List (Option Entry)) (q : Port) : (s.withRules x).port q = s.port q := rfl
@[simp] theorem State.withRules_seg (s : State) (x : List (Option Entry)) (r : Seg) : (s.withRules x).seg r = s.seg r := rfl
@[simp] theorem State.withPending_port (s : State) (x : List Instr) (q : Port) : (s.withPending x).port q = s.port q := rfl
@[simp] theorem State.withPending_seg (s : State) (x : List Instr) (r : Seg) : (s.withPending x).seg r = s.seg r := rfl
@[simp] theorem State.withRx_port_ne (s : State) (p : Port) (x : Receiver) {q : Port} (h : q ≠ p) : (s.withRx p x).port q = s.port q := by
  simp [State.withRx, State.withPort, State.port, h]
@[simp] theorem State.withRx_seg (s : State) (p : Port) (x : Receiver) (r : Seg) : (s.withRx p x).seg r = s.seg r := rfl
@[simp] theorem State.withTx_port_ne (s : State) (p : Port) (x : Transmitter) {q : Port} (h : q ≠ p) : (s.withTx p x).port q = s.port q := by
  simp [State.withTx, State.withPort, State.port, h]
@[simp] theorem State.withTx_seg (s : State) (p : Port) (x : Transmitter) (r : Seg) : (s.withTx p x).seg r = s.seg r := rfl
@[simp] theorem State.withQueue_port_ne (s : State) (p : Port) (x : TxQueue) {q : Port} (h : q ≠ p) : (s.withQueue p x).port q = s.port q := by
  simp [State.withQueue, State.withPort, State.port, h]
@[simp] theorem State.withQueue_seg (s : State) (p : Port) (x : TxQueue) (r : Seg) : (s.withQueue p x).seg r = s.seg r := rfl
@[simp] theorem State.withLane_port_ne (s : State) (p : Port) (x : Option Reply) {q : Port} (h : q ≠ p) : (s.withLane p x).port q = s.port q := by
  simp [State.withLane, State.withPort, State.port, h]
@[simp] theorem State.withLane_seg (s : State) (p : Port) (x : Option Reply) (r : Seg) : (s.withLane p x).seg r = s.seg r := rfl
@[simp] theorem State.withGuard_port_ne (s : State) (p : Port) (x : Option Nat) {q : Port} (h : q ≠ p) : (s.withGuard p x).port q = s.port q := by
  simp [State.withGuard, State.withPort, State.port, h]
@[simp] theorem State.withGuard_seg (s : State) (p : Port) (x : Option Nat) (r : Seg) : (s.withGuard p x).seg r = s.seg r := rfl
@[simp] theorem State.withPendingSettings_port_ne (s : State) (p : Port) (x : Option Settings) {q : Port} (h : q ≠ p) : (s.withPendingSettings p x).port q = s.port q := by
  simp [State.withPendingSettings, State.withPort, State.port, h]
@[simp] theorem State.withPendingSettings_seg (s : State) (p : Port) (x : Option Settings) (r : Seg) : (s.withPendingSettings p x).seg r = s.seg r := rfl
@[simp] theorem State.withSnapshot_port_ne (s : State) (p : Port) (x : Option Snapshot) {q : Port} (h : q ≠ p) : (s.withSnapshot p x).port q = s.port q := by
  simp [State.withSnapshot, State.withPort, State.port, h]
@[simp] theorem State.withSnapshot_seg (s : State) (p : Port) (x : Option Snapshot) (r : Seg) : (s.withSnapshot p x).seg r = s.seg r := rfl
@[simp] theorem State.count_port_ne (s : State) (p : Port) (k : PortCounter) {q : Port} (h : q ≠ p) : (s.count p k).port q = s.port q := by
  simp [State.count, State.withPort, State.port, h]
@[simp] theorem State.count_seg (s : State) (p : Port) (k : PortCounter) (r : Seg) : (s.count p k).seg r = s.seg r := rfl
@[simp] theorem State.withSlot_port (s : State) (sg : Seg) (x : Slot) (q : Port) : (s.withSlot sg x).port q = s.port q := rfl
@[simp] theorem State.withSlot_seg_ne (s : State) (sg : Seg) (x : Slot) {r : Seg} (h : r ≠ sg) : (s.withSlot sg x).seg r = s.seg r := by
  simp [State.withSlot, State.withSeg, State.seg, h]
@[simp] theorem State.countExchange_port (s : State) (sg : Seg) (k : ExchangeCounter) (q : Port) : (s.countExchange sg k).port q = s.port q := rfl
@[simp] theorem State.countExchange_seg_ne (s : State) (sg : Seg) (k : ExchangeCounter) {r : Seg} (h : r ≠ sg) : (s.countExchange sg k).seg r = s.seg r := by
  simp [State.countExchange, State.withSeg, State.seg, h]

@[simp] theorem State.withPort_port_self (s : State) (p : Port) (x : PortState) : (s.withPort p x).port p = x := by
  simp [State.withPort, State.port]

@[simp] theorem State.withSeg_seg_self (s : State) (sg : Seg) (x : SegState) : (s.withSeg sg x).seg sg = x := by
  simp [State.withSeg, State.seg]

@[simp] theorem State.withRx_port_self (s : State) (p : Port) (x : Receiver) : (s.withRx p x).port p = { s.port p with rx := x } := by
  simp [State.withRx]
@[simp] theorem State.withTx_port_self (s : State) (p : Port) (x : Transmitter) : (s.withTx p x).port p = { s.port p with tx := x } := by
  simp [State.withTx]
@[simp] theorem State.withQueue_port_self (s : State) (p : Port) (x : TxQueue) : (s.withQueue p x).port p = { s.port p with queue := x } := by
  simp [State.withQueue]
@[simp] theorem State.withLane_port_self (s : State) (p : Port) (x : Option Reply) : (s.withLane p x).port p = { s.port p with lane := x } := by
  simp [State.withLane]
@[simp] theorem State.withGuard_port_self (s : State) (p : Port) (x : Option Nat) : (s.withGuard p x).port p = { s.port p with guardFrom := x } := by
  simp [State.withGuard]
@[simp] theorem State.withPendingSettings_port_self (s : State) (p : Port) (x : Option Settings) : (s.withPendingSettings p x).port p = { s.port p with pendingSettings := x } := by
  simp [State.withPendingSettings]
@[simp] theorem State.withSnapshot_port_self (s : State) (p : Port) (x : Option Snapshot) : (s.withSnapshot p x).port p = { s.port p with snapshot := x } := by
  simp [State.withSnapshot]

@[simp] theorem State.count_port_self (s : State) (p : Port) (k : PortCounter) :
    (s.count p k).port p = { s.port p with counters := (s.port p).counters.bump k } := by
  simp [State.count]

@[simp] theorem State.withSlot_seg_self (s : State) (sg : Seg) (x : Slot) :
    (s.withSlot sg x).seg sg = { s.seg sg with slot := x } := by
  simp [State.withSlot]

@[simp] theorem State.countExchange_seg_self (s : State) (sg : Seg) (k : ExchangeCounter) :
    (s.countExchange sg k).seg sg = { s.seg sg with counters := (s.seg sg).counters.bump k } := by
  simp [State.countExchange]

/-! ### Counters -/

/-- A counter that is bumped is the only one that changes (R149, R150). -/
theorem PortCounters.get_bump (c : PortCounters) (k j : PortCounter) :
    (c.bump k).get j = if j = k then (c.get j).bump else c.get j := by
  cases k <;> cases j <;> rfl

/-- An exchange counter that is bumped is the only one that changes (R149, R151). -/
theorem ExchangeCounters.get_bump (c : ExchangeCounters) (k j : ExchangeCounter) :
    (c.bump k).get j = if j = k then (c.get j).bump else c.get j := by
  cases k <;> cases j <;> rfl

end Machine

/-- An increment never lowers a counter (R149). -/
theorem Count.le_bump (c : Count) : c ≤ c.bump := by
  unfold Count.bump
  split
  · exact BitVec.le_refl c
  · rename_i h
    rw [BitVec.le_def, BitVec.toNat_add]
    have h1 : c.toNat ≠ 4294967295 := fun e => h (BitVec.eq_of_toNat_eq (by simpa using e))
    have h2 := c.isLt
    simp only [BitVec.toNat_ofNat]
    omega

end Sys2Proof
end

