-- ==== Sys2Proof/Laws/Alerted.lean ====
section
/-! SUPPORT. `State.alerted`, the form in which statements give the raising of causes and the forming of an alert (R160, R161),
is what the operations `raiseCause` and `formAlert` do. -/

namespace Sys2Proof.Machine

/-! ### Causes -/

theorem CauseSet.add_comm (c : CauseSet) (j k : Cause) : (c.add j).add k = (c.add k).add j := by cases j <;> cases k <;> rfl

theorem CauseSet.isEmpty_false {c : CauseSet} : c.isEmpty = false ↔ c ≠ CauseSet.empty := by
  simp [CauseSet.isEmpty]

/-- With no cause raised, `alerted` is the formation test. -/
theorem State.alerted_nil (s : State) : s.alerted [] = s.formAlert := by
  have hm : s.alertMayForm = true ↔
      (s.alert.state = .quiet ∧ s.causesWith [] ≠ CauseSet.empty ∧ s.alertLane = none) := by
    simp [State.alertMayForm, State.causesWith, CauseSet.isEmpty, and_assoc]
  unfold State.alerted State.formAlert
  by_cases h : s.alertMayForm = true
  · rw [if_pos h, if_pos (hm.mp h)]; rfl
  · rw [if_neg h, if_neg (fun k => h (hm.mpr k))]; rfl

/-- A cause raised first joins those that `alerted` raises. -/
theorem State.alerted_raiseCause (s : State) (k : Cause) (ks : List Cause) : (s.raiseCause k).alerted ks = s.alerted (k :: ks) := by
  unfold State.raiseCause
  split
  · rename_i h
    have hc : s.causesWith (k :: ks) =
        State.causesWith (s.withAlert { s.alert with pendingCauses := s.alert.pendingCauses.add k }) ks := by
      simp only [State.causesWith, List.foldl_cons, h, if_true]; rfl
    unfold State.alerted
    rw [hc]
    rfl
  · rename_i h
    have hc : s.causesWith (k :: ks) = s.causesWith ks := by simp only [State.causesWith, List.foldl_cons, h]; rfl
    unfold State.alerted
    rw [hc]

/-- The formation test after a cause has been raised. -/
theorem State.formAlert_raiseCause (s : State) (k : Cause) : (s.raiseCause k).formAlert = s.alerted [k] := by
  rw [← State.alerted_nil, State.alerted_raiseCause]

/-- An offer to a port's snapshot as a record update with its cause raised (R156, R157). -/
theorem State.alerted_offerSnapshot (s : State) (p : Port) (kind : SnapshotKind) (t : Stamp) (n : Nat) (bytes : List Byte)
    (ks : List Cause) :
    (s.offerSnapshot p kind t n bytes).alerted ks =
      State.alerted (s.withSnapshot p (snapshotAfter (s.port p).snapshot kind t n bytes)) (s.snapshotCause p ++ ks) := by
  unfold State.offerSnapshot State.snapshotCause snapshotAfter
  cases h : (s.port p).snapshot with
  | none => simp [State.alerted_raiseCause]
  | some r => simp

end Sys2Proof.Machine
end

