-- ==== Sys2Proof/Laws/Memory.lean ====
section
/-! SUPPORT. Memory: every operation keeps the canonical form, and what a read gives after a write. -/

namespace Sys2Proof.Machine

/-- Every cell of a memory lies at or above an address. -/
abbrev Memory.above (m : Memory) (a : Nat) : Prop := ∀ c ∈ m, a ≤ c.1

theorem Memory.wf_nil : Memory.wf [] := ⟨List.Pairwise.nil, by simp⟩

theorem Memory.wf_cons {c : Host.Cell} {m : Memory} :
    Memory.wf (c :: m) ↔ (∀ d ∈ m, c.1 < d.1) ∧ c.2 ≠ Config.blankByte ∧ Memory.wf m := by
  unfold Memory.wf
  rw [List.pairwise_cons]
  simp only [List.forall_mem_cons]
  tauto

theorem Memory.mem_cell {a : Nat} {v : Byte} {c : Host.Cell} (h : c ∈ Memory.cell a v) :
    c = (a, v) ∧ v ≠ Config.blankByte := by
  unfold Memory.cell at h
  split at h
  · simp at h
  · rename_i hv; exact ⟨by simpa using h, hv⟩

/-- A cell in front of a memory that lies above it is in canonical form. -/
theorem Memory.wf_cell_append {a : Nat} {v : Byte} {m : Memory} (h : Memory.wf m) (ha : Memory.above m (a + 1)) :
    Memory.wf (Memory.cell a v ++ m) := by
  unfold Memory.cell
  split
  · simpa using h
  · rename_i hv
    rw [List.singleton_append, Memory.wf_cons]
    exact ⟨fun d hd => ha d hd, hv, h⟩

theorem Memory.mem_write {m : Memory} {a : Nat} {v : Byte} {c : Host.Cell} (h : c ∈ m.write a v) :
    c ∈ m ∨ c.1 = a := by
  induction m with
  | nil => exact Or.inr (by rw [(Memory.mem_cell h).1])
  | cons d m ih =>
    unfold Memory.write at h
    split at h
    · rcases List.mem_append.mp h with h | h
      · exact Or.inr (by rw [(Memory.mem_cell h).1])
      · exact Or.inl h
    · split at h
      · rcases List.mem_append.mp h with h | h
        · exact Or.inr (by rw [(Memory.mem_cell h).1])
        · exact Or.inl (List.mem_cons_of_mem _ h)
      · rcases List.mem_cons.mp h with h | h
        · exact Or.inl (by rw [h]; exact List.mem_cons_self)
        · rcases ih h with h | h
          · exact Or.inl (List.mem_cons_of_mem _ h)
          · exact Or.inr h

/-- A write keeps the canonical form. -/
theorem Memory.wf_write {m : Memory} (h : Memory.wf m) (a : Nat) (v : Byte) : Memory.wf (m.write a v) := by
  induction m with
  | nil =>
    have := Memory.wf_cell_append (a := a) (v := v) Memory.wf_nil (by simp)
    simpa [Memory.write] using this
  | cons c m ih =>
    have hc := Memory.wf_cons.mp h
    unfold Memory.write
    split
    · rename_i hlt
      refine Memory.wf_cell_append h ?_
      intro d hd
      rcases List.mem_cons.mp hd with hd | hd
      · rw [hd]; exact hlt
      · have := hc.1 d hd; omega
    · split
      · rename_i _ heq
        refine Memory.wf_cell_append hc.2.2 ?_
        intro d hd
        have := hc.1 d hd
        omega
      · rename_i h1 h2
        rw [Memory.wf_cons]
        refine ⟨?_, hc.2.1, ih hc.2.2⟩
        intro d hd
        rcases Memory.mem_write hd with hd | hd
        · exact hc.1 d hd
        · omega

/-- Storing consecutive bytes keeps the canonical form. -/
theorem Memory.wf_writeBytes {m : Memory} (h : Memory.wf m) (a : Nat) (bytes : List Byte) :
    Memory.wf (m.writeBytes a bytes) := by
  induction bytes generalizing m a with
  | nil => exact h
  | cons v rest ih => exact ih (Memory.wf_write h a v) (a + 1)

theorem Memory.above_ofBytes (a : Nat) (bytes : List Byte) : Memory.above (Memory.ofBytes a bytes) a := by
  induction bytes generalizing a with
  | nil => simp [Memory.ofBytes, Memory.above]
  | cons v rest ih =>
    intro c hc
    rcases List.mem_append.mp hc with hc | hc
    · rw [(Memory.mem_cell hc).1]
    · have := ih (a + 1) c hc; omega

/-- The memory built from consecutive bytes is in canonical form. -/
theorem Memory.wf_ofBytes (a : Nat) (bytes : List Byte) : Memory.wf (Memory.ofBytes a bytes) := by
  induction bytes generalizing a with
  | nil => exact Memory.wf_nil
  | cons v rest ih => exact Memory.wf_cell_append (ih (a + 1)) (Memory.above_ofBytes (a + 1) rest)

/-- An address below every cell reads as blank. -/
theorem Memory.read_above {m : Memory} {a b : Nat} (h : Memory.above m b) (ha : a < b) : m.read a = Config.blankByte := by
  induction m with
  | nil => rfl
  | cons c m ih =>
    have hc := h c List.mem_cons_self
    unfold Memory.read
    rw [if_neg (by omega)]
    exact ih fun d hd => h d (List.mem_cons_of_mem _ hd)

theorem Memory.read_cell_append (a b : Nat) (v : Byte) (m : Memory) :
    (Memory.cell a v ++ m).read b = if b = a ∧ v ≠ Config.blankByte then v else m.read b := by
  unfold Memory.cell
  by_cases hv : v = Config.blankByte
  · simp [hv]
  · simp only [hv, if_false, List.singleton_append, Memory.read, ne_eq, not_false_eq_true, and_true]
    by_cases h : a = b
    · simp [h]
    · rw [if_neg h, if_neg (fun e => h e.symm)]

/-- What any address reads as after one byte is stored. -/
theorem Memory.read_write {m : Memory} (h : Memory.wf m) (a b : Nat) (v : Byte) :
    (m.write a v).read b = if b = a then v else m.read b := by
  induction m with
  | nil =>
    have := Memory.read_cell_append a b v []
    rw [List.append_nil] at this
    rw [Memory.write, this]
    by_cases hb : b = a
    · by_cases hv : v = Config.blankByte <;> simp [hb, hv, Memory.read]
    · simp [hb]
  | cons c m ih =>
    have hc := Memory.wf_cons.mp h
    unfold Memory.write
    split
    · rename_i hlt
      rw [Memory.read_cell_append]
      by_cases hb : b = a
      · subst hb
        by_cases hv : v = Config.blankByte
        · have habove : Memory.above (c :: m) (b + 1) := by
            intro d hd
            rcases List.mem_cons.mp hd with hd | hd
            · rw [hd]; omega
            · have := hc.1 d hd; omega
          simp [hv, Memory.read_above habove (Nat.lt_succ_self b)]
        · simp [hv]
      · simp [hb]
    · split
      · rename_i _ heq
        rw [Memory.read_cell_append]
        by_cases hb : b = a
        · subst hb
          by_cases hv : v = Config.blankByte
          · have habove : Memory.above m (b + 1) := by
              intro d hd; have := hc.1 d hd; omega
            simp [hv, Memory.read_above habove (Nat.lt_succ_self b)]
          · simp [hv]
        · simp only [hb, false_and, if_false, Memory.read]
          rw [if_neg (by omega)]
      · rename_i h1 h2
        simp only [Memory.read]
        by_cases hb : c.1 = b
        · have : b ≠ a := by omega
          simp [hb, this]
        · simp [hb, ih hc.2.2]

/-- What any address reads as after consecutive bytes are stored. -/
theorem Memory.read_writeBytes {m : Memory} (h : Memory.wf m) (a b : Nat) (bytes : List Byte) :
    (m.writeBytes a bytes).read b = if a ≤ b ∧ b < a + bytes.length then bytes.getD (b - a) 0 else m.read b := by
  induction bytes generalizing m a with
  | nil =>
    simp only [Memory.writeBytes, List.length_nil, Nat.add_zero]
    rw [if_neg (by omega)]
  | cons v rest ih =>
    rw [Memory.writeBytes, ih (Memory.wf_write h a v) (a + 1), Memory.read_write h]
    by_cases hb : b = a
    · subst hb
      simp
    · by_cases h1 : a + 1 ≤ b ∧ b < a + 1 + rest.length
      · obtain ⟨k, rfl⟩ : ∃ k, b = a + 1 + k := ⟨b - (a + 1), by omega⟩
        rw [if_pos h1, if_pos (by simp; omega)]
        have e1 : a + 1 + k - (a + 1) = k := by omega
        have e2 : a + 1 + k - a = k + 1 := by omega
        simp [e1, e2]
      · rw [if_neg h1, if_neg hb, if_neg (by simp; omega)]

/-- What any address reads as in the memory built from consecutive bytes. -/
theorem Memory.read_ofBytes (a b : Nat) (bytes : List Byte) :
    (Memory.ofBytes a bytes).read b = if a ≤ b ∧ b < a + bytes.length then bytes.getD (b - a) 0 else Config.blankByte := by
  induction bytes generalizing a with
  | nil =>
    simp only [Memory.ofBytes, Memory.read, List.length_nil, Nat.add_zero]
    rw [if_neg (by omega)]
  | cons v rest ih =>
    rw [Memory.ofBytes, Memory.read_cell_append, ih (a + 1)]
    by_cases hb : b = a
    · subst hb
      by_cases hv : v = Config.blankByte
      · simp [hv]
      · simp [hv]
    · by_cases h1 : a + 1 ≤ b ∧ b < a + 1 + rest.length
      · obtain ⟨k, rfl⟩ : ∃ k, b = a + 1 + k := ⟨b - (a + 1), by omega⟩
        rw [if_neg (by omega), if_pos h1, if_pos (by simp; omega)]
        have e1 : a + 1 + k - (a + 1) = k := by omega
        have e2 : a + 1 + k - a = k + 1 := by omega
        simp [e1, e2]
      · rw [if_neg (by omega), if_neg h1, if_neg (by simp; omega)]

theorem Memory.length_readBytes (m : Memory) (a n : Nat) : (m.readBytes a n).length = n := by simp [Memory.readBytes]

/-- Reading a run of the memory built from consecutive bytes gives that run. -/
theorem Memory.readBytes_ofBytes (a k n : Nat) (bytes : List Byte) (h : k + n ≤ bytes.length) :
    (Memory.ofBytes a bytes).readBytes (a + k) n = (bytes.drop k).take n := by
  apply List.ext_getElem
  · simp [Memory.readBytes]; omega
  · intro i h1 h2
    simp only [Memory.readBytes, List.getElem_map, List.getElem_range, List.getElem_take, List.getElem_drop]
    rw [Memory.length_readBytes] at h1
    rw [Memory.read_ofBytes, if_pos (by omega)]
    have e : a + k + i - a = k + i := by omega
    rw [e, List.getD_eq_getElem?_getD, List.getElem?_eq_getElem (by omega)]
    rfl

end Sys2Proof.Machine
end

