-- ==== Sys2Proof/Laws/Pool.lean ====
section
/-! SUPPORT. The frame pool: what each operation does to counts and free list, and that each keeps the law of R37 and the
canonical form of the buffers' memory. -/

namespace Sys2Proof.Machine

theorem Pool.refCount_lt {m : Pool} (h : m.refs.length = Config.poolBuffers) {b : Nat} (hb : m.refCount b ≠ 0) :
    b < Config.poolBuffers := by
  by_contra hn
  apply hb
  unfold Pool.refCount
  rw [List.getD_eq_getElem?_getD, List.getElem?_eq_none (by omega)]
  rfl

theorem Pool.refCount_set (m : Pool) (b n c : Nat) (h : b < m.refs.length) :
    (m.refs.set b n).getD c 0 = if c = b then n else m.refCount c := by
  unfold Pool.refCount
  rw [List.getD_eq_getElem?_getD, List.getD_eq_getElem?_getD]
  by_cases hc : c = b
  · subst hc; simp [h]
  · rw [List.getElem?_set_ne (fun e => hc e.symm), if_neg hc]

/-- A reservation takes the head of the free list, sets its count to 1 and lowers the watermark (R24, R37, R40). -/
theorem Pool.reserve_some {m m' : Pool} {b : Nat} (h : m.reserve = some (b, m')) :
    m.free = b :: m'.free ∧ m'.refs = m.refs.set b 1 ∧ m'.watermark = min m.watermark m'.free.length ∧ m'.ram = m.ram ∧
      m'.lens = m.lens := by
  unfold Pool.reserve at h
  split at h
  · simp at h
  · rename_i x rest hf
    simp only [Option.some.injEq, Prod.mk.injEq] at h
    obtain ⟨rfl, rfl⟩ := h
    exact ⟨hf, rfl, rfl, rfl, rfl⟩

theorem Pool.reserve_none {m : Pool} : m.reserve = none ↔ m.free = [] := by
  unfold Pool.reserve
  split <;> simp_all

theorem Pool.lawful_reserve {m m' : Pool} {b : Nat} (hl : m.lawful) (h : m.reserve = some (b, m')) : m'.lawful := by
  obtain ⟨hlen, hnd, hlt, hiff⟩ := hl
  obtain ⟨hf, hr, _, _, _⟩ := Pool.reserve_some h
  rw [hf] at hnd hlt hiff
  have hb : b < Config.poolBuffers := hlt b List.mem_cons_self
  have hnd' := List.nodup_cons.mp hnd
  refine ⟨by rw [hr, List.length_set, hlen], hnd'.2, fun c hc => hlt c (List.mem_cons_of_mem _ hc), ?_⟩
  intro c hc
  have e : m'.refCount c = if c = b then 1 else m.refCount c := by
    have := Pool.refCount_set m b 1 c (by rw [hlen]; exact hb)
    rw [← this, ← hr]; rfl
  rw [e]
  by_cases hcb : c = b
  · subst hcb; simp [hnd'.1]
  · rw [if_neg hcb, ← hiff c hc, List.mem_cons]
    tauto

theorem Pool.lawful_drop {m : Pool} (hl : m.lawful) (b : Nat) : (m.drop b).lawful := by
  obtain ⟨hlen, hnd, hlt, hiff⟩ := hl
  unfold Pool.drop
  split
  · exact ⟨hlen, hnd, hlt, hiff⟩
  · rename_i h1
    have hb : b < Config.poolBuffers := Pool.refCount_lt hlen (by omega)
    have hnot : b ∉ m.free := fun hm => by have := (hiff b hb).mp hm; omega
    refine ⟨by simp [hlen], ?_, ?_, ?_⟩
    · rw [List.nodup_append]
      exact ⟨hnd, by simp, by intro x hx y hy; simp at hy; subst hy; exact fun e => hnot (e ▸ hx)⟩
    · intro c hc
      rcases List.mem_append.mp hc with hc | hc
      · exact hlt c hc
      · simp at hc; subst hc; exact hb
    · intro c hc
      have e := Pool.refCount_set m b 0 c (by rw [hlen]; exact hb)
      simp only [List.mem_append, List.mem_singleton]
      show (c ∈ m.free ∨ c = b) ↔ (m.refs.set b 0).getD c 0 = 0
      rw [e]
      by_cases hcb : c = b
      · simp [hcb]
      · simp [hcb, hiff c hc]
  · rename_i n h2
    have hb : b < Config.poolBuffers := Pool.refCount_lt hlen (by omega)
    refine ⟨by simp [hlen], hnd, hlt, ?_⟩
    intro c hc
    have e := Pool.refCount_set m b (n + 1) c (by rw [hlen]; exact hb)
    show c ∈ m.free ↔ (m.refs.set b (n + 1)).getD c 0 = 0
    rw [e]
    by_cases hcb : c = b
    · have : b ∉ m.free := fun hm => by have := (hiff b hb).mp hm; omega
      simp [hcb, this]
    · simp [hcb, hiff c hc]

theorem Pool.lawful_addRef {m : Pool} (hl : m.lawful) (b : Nat) : (m.addRef b).lawful := by
  obtain ⟨hlen, hnd, hlt, hiff⟩ := hl
  unfold Pool.addRef
  split
  · exact ⟨hlen, hnd, hlt, hiff⟩
  · rename_i n h1
    have hb : b < Config.poolBuffers := Pool.refCount_lt hlen (by omega)
    refine ⟨by simp [hlen], hnd, hlt, ?_⟩
    intro c hc
    have e := Pool.refCount_set m b (n + 2) c (by rw [hlen]; exact hb)
    show c ∈ m.free ↔ (m.refs.set b (n + 2)).getD c 0 = 0
    rw [e]
    by_cases hcb : c = b
    · have : b ∉ m.free := fun hm => by have := (hiff b hb).mp hm; omega
      simp [hcb, this]
    · simp [hcb, hiff c hc]

theorem Pool.lawful_afresh (m : Pool) (w : Nat) : (m.afresh w).lawful := by
  refine ⟨by simp [Pool.afresh], List.nodup_range, fun b hb => by simpa [Pool.afresh] using hb, ?_⟩
  intro b hb
  simp [Pool.afresh, Pool.refCount, hb]

/-- The law of the pool does not look at the bytes, the lengths or the watermark. -/
theorem Pool.lawful_congr {m n : Pool} (hf : n.free = m.free) (hr : n.refs = m.refs) (h : m.lawful) : n.lawful := by
  unfold Pool.lawful Pool.refCount at *
  rw [hf, hr]
  exact h

/-- What one pool becomes by the operations of the part: reservations, dropped and added references, stored bytes, noted
lengths, a cleared watermark, and the fresh pool of a reset. -/
inductive Pool.Reaches : Pool → Pool → Prop
  | refl (m : Pool) : Reaches m m
  | reserve {m n n' : Pool} {b : Nat} : Reaches m n → n.reserve = some (b, n') → Reaches m n'
  | drop {m n : Pool} (b : Nat) : Reaches m n → Reaches m (n.drop b)
  | addRef {m n : Pool} (b : Nat) : Reaches m n → Reaches m (n.addRef b)
  | store {m n : Pool} (b i : Nat) (v : Byte) : Reaches m n → Reaches m (n.store b i v)
  | setLength {m n : Pool} (b l : Nat) : Reaches m n → Reaches m (n.setLength b l)
  | writeFrame {m n : Pool} (b : Nat) (bs : List Byte) : Reaches m n → Reaches m (n.writeFrame b bs)
  | watermark {m n : Pool} (w : Nat) : Reaches m n → Reaches m { n with watermark := w }
  | afresh {m n : Pool} (w : Nat) : Reaches m n → Reaches m (n.afresh w)
  | blank {m : Pool} : Reaches m Pool.blank

theorem Pool.Reaches.trans {a b c : Pool} (h1 : Pool.Reaches a b) (h2 : Pool.Reaches b c) : Pool.Reaches a c := by
  induction h2 with
  | refl => exact h1
  | reserve _ h ih => exact .reserve ih h
  | drop b _ ih => exact .drop b ih
  | addRef b _ ih => exact .addRef b ih
  | store b i v _ ih => exact .store b i v ih
  | setLength b l _ ih => exact .setLength b l ih
  | writeFrame b bs _ ih => exact .writeFrame b bs ih
  | watermark w _ ih => exact .watermark w ih
  | afresh w _ ih => exact .afresh w ih
  | blank => exact .blank

/-- Every operation of the pool keeps its law (R37). -/
theorem Pool.lawful_of_reaches {m n : Pool} (h : Pool.Reaches m n) (hl : m.lawful) : n.lawful := by
  induction h with
  | refl => exact hl
  | reserve _ h ih => exact Pool.lawful_reserve ih h
  | drop b _ ih => exact Pool.lawful_drop ih b
  | addRef b _ ih => exact Pool.lawful_addRef ih b
  | store b i v _ ih => exact Pool.lawful_congr rfl rfl ih
  | setLength b l _ ih => exact Pool.lawful_congr rfl rfl ih
  | writeFrame b bs _ ih => exact Pool.lawful_congr rfl rfl ih
  | watermark w _ ih => exact Pool.lawful_congr rfl rfl ih
  | afresh w _ _ => exact Pool.lawful_afresh _ w
  | blank => exact Pool.lawful_afresh _ _

theorem Pool.drop_ram (m : Pool) (b : Nat) : (m.drop b).ram = m.ram := by unfold Pool.drop; split <;> rfl
theorem Pool.drop_lens (m : Pool) (b : Nat) : (m.drop b).lens = m.lens := by unfold Pool.drop; split <;> rfl
theorem Pool.drop_watermark (m : Pool) (b : Nat) : (m.drop b).watermark = m.watermark := by unfold Pool.drop; split <;> rfl
theorem Pool.addRef_ram (m : Pool) (b : Nat) : (m.addRef b).ram = m.ram := by unfold Pool.addRef; split <;> rfl
theorem Pool.addRef_lens (m : Pool) (b : Nat) : (m.addRef b).lens = m.lens := by unfold Pool.addRef; split <;> rfl
theorem Pool.addRef_free (m : Pool) (b : Nat) : (m.addRef b).free = m.free := by unfold Pool.addRef; split <;> rfl
theorem Pool.addRef_watermark (m : Pool) (b : Nat) : (m.addRef b).watermark = m.watermark := by
  unfold Pool.addRef; split <;> rfl

/-- Every operation of the pool keeps the canonical form of the buffers' memory. -/
theorem Pool.ram_wf_of_reaches {m n : Pool} (h : Pool.Reaches m n) (hw : Memory.wf m.ram) : Memory.wf n.ram := by
  induction h with
  | refl => exact hw
  | reserve _ h ih => rw [(Pool.reserve_some h).2.2.2.1]; exact ih
  | drop b _ ih => rw [Pool.drop_ram]; exact ih
  | addRef b _ ih => rw [Pool.addRef_ram]; exact ih
  | store b i v _ ih => exact Memory.wf_write ih _ _
  | setLength b l _ ih => exact ih
  | writeFrame b bs _ ih => exact Memory.wf_writeBytes ih _ _
  | watermark w _ ih => exact ih
  | afresh w _ ih => exact ih
  | blank => exact Memory.wf_nil

end Sys2Proof.Machine
end

