-- ==== Sys2Proof/Laws/Evolves.lean ====
section
/-! SUPPORT. What every event of the part leaves alone whatever else it does: the waiting commands, the model's clock, CLKIN,
the supply and RSTN; and that the pool moves by its own operations only. One lemma for each shared operation. -/

namespace Sys2Proof.Machine

/-- `t` comes from `s` by events of the part: the waiting commands, the clock, the supply and the reset pin are the same, and
the pool has moved by its own operations. -/
structure State.Evolves (s t : State) : Prop where
  pending : t.pending = s.pending
  now : t.now = s.now
  clockRunning : t.clockRunning = s.clockRunning
  supply : t.supply = s.supply
  pinHeld : t.pinHeld = s.pinHeld
  freeCount : t.freeCount = s.freeCount
  pool : Pool.Reaches s.pool t.pool

theorem State.Evolves.refl (s : State) : s.Evolves s := ⟨rfl, rfl, rfl, rfl, rfl, rfl, .refl _⟩

theorem State.Evolves.trans {a b c : State} (h : a.Evolves b) (k : b.Evolves c) : a.Evolves c :=
  ⟨k.pending.trans h.pending, k.now.trans h.now, k.clockRunning.trans h.clockRunning, k.supply.trans h.supply,
    k.pinHeld.trans h.pinHeld, k.freeCount.trans h.freeCount, h.pool.trans k.pool⟩

/-- The state after an update of the pool by one of its operations. -/
theorem State.withPool_evolves (s : State) {m : Pool} (h : Pool.Reaches s.pool m) : s.Evolves (s.withPool m) :=
  ⟨rfl, rfl, rfl, rfl, rfl, rfl, h⟩

theorem State.withPort_evolves (s : State) (p : Port) (x : PortState) : s.Evolves (s.withPort p x) :=
  ⟨rfl, rfl, rfl, rfl, rfl, rfl, .refl _⟩
theorem State.withSeg_evolves (s : State) (sg : Seg) (x : SegState) : s.Evolves (s.withSeg sg x) :=
  ⟨rfl, rfl, rfl, rfl, rfl, rfl, .refl _⟩
theorem State.withAgent_evolves (s : State) (x : Agent) : s.Evolves (s.withAgent x) :=
  ⟨rfl, rfl, rfl, rfl, rfl, rfl, .refl _⟩
theorem State.withAlert_evolves (s : State) (x : AlertUnit) : s.Evolves (s.withAlert x) :=
  ⟨rfl, rfl, rfl, rfl, rfl, rfl, .refl _⟩
theorem State.withAlertLane_evolves (s : State) (x : Option (List Byte)) : s.Evolves (s.withAlertLane x) :=
  ⟨rfl, rfl, rfl, rfl, rfl, rfl, .refl _⟩
theorem State.withStore_evolves (s : State) (x : Store) : s.Evolves (s.withStore x) :=
  ⟨rfl, rfl, rfl, rfl, rfl, rfl, .refl _⟩
theorem State.withRules_evolves (s : State) (x : List (Option Entry)) : s.Evolves (s.withRules x) :=
  ⟨rfl, rfl, rfl, rfl, rfl, rfl, .refl _⟩
theorem State.withRx_evolves (s : State) (p : Port) (x : Receiver) : s.Evolves (s.withRx p x) := s.withPort_evolves _ _
theorem State.withTx_evolves (s : State) (p : Port) (x : Transmitter) : s.Evolves (s.withTx p x) := s.withPort_evolves _ _
theorem State.withQueue_evolves (s : State) (p : Port) (x : TxQueue) : s.Evolves (s.withQueue p x) := s.withPort_evolves _ _
theorem State.withLane_evolves (s : State) (p : Port) (x : Option Reply) : s.Evolves (s.withLane p x) := s.withPort_evolves _ _
theorem State.withGuard_evolves (s : State) (p : Port) (x : Option Nat) : s.Evolves (s.withGuard p x) := s.withPort_evolves _ _
theorem State.withPendingSettings_evolves (s : State) (p : Port) (x : Option Settings) :
    s.Evolves (s.withPendingSettings p x) := s.withPort_evolves _ _
theorem State.withSnapshot_evolves (s : State) (p : Port) (x : Option Snapshot) : s.Evolves (s.withSnapshot p x) :=
  s.withPort_evolves _ _
theorem State.count_evolves (s : State) (p : Port) (k : PortCounter) : s.Evolves (s.count p k) := s.withPort_evolves _ _
theorem State.withSlot_evolves (s : State) (sg : Seg) (x : Slot) : s.Evolves (s.withSlot sg x) := s.withSeg_evolves _ _
theorem State.countExchange_evolves (s : State) (sg : Seg) (k : ExchangeCounter) : s.Evolves (s.countExchange sg k) :=
  s.withSeg_evolves _ _

theorem State.countIf_evolves (s : State) (c : Bool) (p : Port) (k : PortCounter) : s.Evolves (s.countIf c p k) := by
  unfold State.countIf
  split
  · exact s.count_evolves p k
  · exact .refl s

theorem State.dropRef_evolves (s : State) (b : Nat) : s.Evolves (s.dropRef b) :=
  s.withPool_evolves (.drop b (.refl _))

theorem State.dropRef?_evolves (s : State) (b : Option Nat) : s.Evolves (s.dropRef? b) := by
  cases b with
  | none => exact .refl s
  | some b => exact s.dropRef_evolves b

theorem State.dropRefs_evolves (s : State) (bs : List Nat) : s.Evolves (s.dropRefs bs) := by
  induction bs generalizing s with
  | nil => exact .refl s
  | cons b bs ih => exact (s.dropRef_evolves b).trans (ih _)

/-! ### Alerts and snapshots -/

theorem State.raiseCause_evolves (s : State) (k : Cause) : s.Evolves (s.raiseCause k) := by
  unfold State.raiseCause
  split
  · exact s.withAlert_evolves _
  · exact .refl s

theorem State.formAlert_evolves (s : State) : s.Evolves s.formAlert := by
  unfold State.formAlert
  split
  · exact (s.withAlert_evolves _).trans (State.withAlertLane_evolves _ _)
  · exact .refl s

theorem State.placeCurrentAlert_evolves (s : State) : s.Evolves s.placeCurrentAlert := by
  unfold State.placeCurrentAlert
  split
  · exact .refl s
  · exact s.withAlertLane_evolves _

theorem State.reportTrunkManagement_evolves (s : State) : s.Evolves s.reportTrunkManagement := by
  unfold State.reportTrunkManagement
  split
  · exact (s.withAlert_evolves _).trans (State.placeCurrentAlert_evolves _)
  · exact .refl s

theorem State.offerSnapshot_evolves (s : State) (p : Port) (k : SnapshotKind) (t : Stamp) (n : Nat) (bs : List Byte) :
    s.Evolves (s.offerSnapshot p k t n bs) := by
  unfold State.offerSnapshot
  split
  · exact (s.withSnapshot_evolves _ _).trans (State.raiseCause_evolves _ _)
  · exact s.withSnapshot_evolves _ _

/-! ### Queues and notices -/

theorem State.enqueue_evolves (s : State) (p : Port) (b : Nat) (k : DescriptorKind) (pr : Priority) :
    s.Evolves (s.enqueue p b k pr) := s.withQueue_evolves _ _

theorem State.buildNotice_evolves (s : State) (n : NoticeRequest) : s.Evolves (s.buildNotice n) := by
  unfold State.buildNotice
  split
  · exact s.count_evolves _ _
  · rename_i b m hm
    have h : s.Evolves (s.withPool (m.writeFrame b (noticeFrame s.agent.settings.address n))) :=
      s.withPool_evolves (.writeFrame b _ (.reserve (.refl _) hm))
    dsimp only
    split
    · exact h.trans (State.enqueue_evolves _ _ _ _ _)
    · exact h.trans ((State.dropRef_evolves _ _).trans (State.count_evolves _ _ _))
    · exact h.trans ((State.dropRef_evolves _ _).trans (State.count_evolves _ _ _))

theorem State.noticeIf_evolves (s : State) (f : Bool) (n : NoticeRequest) : s.Evolves (s.noticeIf f n) := by
  unfold State.noticeIf
  split
  · exact s.buildNotice_evolves n
  · exact .refl s

/-! ### Exchanges -/

theorem State.openExchange_evolves (s : State) (sg : Seg) (d : Descriptor) (x : ExchangeParams) :
    s.Evolves (s.openExchange sg d x) := (s.withSeg_evolves _ _).trans (State.countExchange_evolves _ _ _)

theorem State.scheduleRetry_evolves (s : State) (sg : Seg) (r : ExchangeRecord) : s.Evolves (s.scheduleRetry sg r) :=
  (s.countExchange_evolves _ _).trans (State.withSlot_evolves _ _ _)

theorem State.exchangeFailed_evolves (s : State) (sg : Seg) (r : ExchangeRecord) : s.Evolves (s.exchangeFailed sg r) :=
  ((((s.countExchange_evolves _ _).trans (State.dropRef?_evolves _ _)).trans (State.noticeIf_evolves _ _ _)).trans
    (State.raiseCause_evolves _ _)).trans (State.withSlot_evolves _ _ _)

theorem State.failAttempt_evolves (s : State) (sg : Seg) (r : ExchangeRecord) : s.Evolves (s.failAttempt sg r) := by
  unfold State.failAttempt
  split
  · exact s.scheduleRetry_evolves sg r
  · exact s.exchangeFailed_evolves sg r

theorem State.attemptTimedOut_evolves (s : State) (sg : Seg) (r : ExchangeRecord) : s.Evolves (s.attemptTimedOut sg r) :=
  (s.countExchange_evolves _ _).trans (State.failAttempt_evolves _ _ _)

theorem State.attemptBadReply_evolves (s : State) (sg : Seg) (r : ExchangeRecord) : s.Evolves (s.attemptBadReply sg r) :=
  (s.countExchange_evolves _ _).trans (State.failAttempt_evolves _ _ _)

theorem State.offerAnswerFrame_evolves (s : State) (sg : Seg) (r : ExchangeRecord) (b : Nat) :
    s.Evolves (s.offerAnswerFrame sg r b) := by
  unfold State.offerAnswerFrame
  split
  · exact s.enqueue_evolves _ _ _ _
  · exact (s.count_evolves _ _).trans (State.dropRef_evolves _ _)
  · exact (s.count_evolves _ _).trans (State.dropRef_evolves _ _)

theorem State.exchangeReplied_evolves (s : State) (sg : Seg) (r : ExchangeRecord) (b : Nat) :
    s.Evolves (s.exchangeReplied sg r b) :=
  (((s.countExchange_evolves _ _).trans (State.offerAnswerFrame_evolves _ _ _ _)).trans (State.dropRef?_evolves _ _)).trans
    (State.withSlot_evolves _ _ _)

theorem State.reportArrival_evolves (s : State) (p : Port) : s.Evolves (s.reportArrival p) := by
  unfold State.reportArrival
  split
  · exact .refl s
  · split
    · exact s.withSlot_evolves _ _
    · exact .refl s

theorem State.reportDiscardEnd_evolves (s : State) (p : Port) : s.Evolves (s.reportDiscardEnd p) := by
  unfold State.reportDiscardEnd
  split
  · exact .refl s
  · split
    · exact s.attemptBadReply_evolves _ _
    · exact .refl s

theorem State.cancelExchange_evolves (s : State) (sg : Seg) : s.Evolves (s.cancelExchange sg) := by
  unfold State.cancelExchange
  split
  · exact .refl s
  · split
    · exact s.withSlot_evolves _ _
    · exact (((s.countExchange_evolves _ _).trans (State.dropRef?_evolves _ _)).trans (State.noticeIf_evolves _ _ _)).trans
        (State.withSlot_evolves _ _ _)

/-! ### Classification and dispatch -/

theorem State.forwardTo_evolves (s : State) (src : Port) (b : Nat) (pr : Priority) (q : Port) :
    s.Evolves (s.forwardTo src b pr q) := by
  unfold State.forwardTo
  split
  · exact (s.withPool_evolves (.addRef b (.refl _))).trans (State.enqueue_evolves _ _ _ _ _)
  · exact s.count_evolves _ _
  · exact s.count_evolves _ _

theorem State.foldl_evolves {α : Type} {f : State → α → State} (hf : ∀ s a, State.Evolves s (f s a)) (l : List α) (s : State) :
    s.Evolves (l.foldl f s) := by
  induction l generalizing s with
  | nil => exact .refl s
  | cons a l ih => exact (hf s a).trans (ih _)

theorem State.dispatchForward_evolves (s : State) (src : Port) (b : Nat) (ts : PortSet) (pr : Priority) :
    s.Evolves (s.dispatchForward src b ts pr) :=
  (State.foldl_evolves (f := fun s p => s.forwardTo src b pr p) (fun s p => s.forwardTo_evolves src b pr p) _ s).trans
    (State.dropRef_evolves _ _)

theorem State.dispatchExchange_evolves (s : State) (src : Port) (b i : Nat) (sg : Seg) (pr : Priority) (n : Nat) (f : Bool) :
    s.Evolves (s.dispatchExchange src b i sg pr n f) := by
  unfold State.dispatchExchange
  dsimp only
  split
  · split
    · exact s.enqueue_evolves _ _ _ _
    · exact ((s.count_evolves _ _).trans (State.dropRef_evolves _ _)).trans (State.noticeIf_evolves _ _ _)
    · exact ((s.count_evolves _ _).trans (State.dropRef_evolves _ _)).trans (State.noticeIf_evolves _ _ _)
  · exact ((s.count_evolves _ _).trans (State.dropRef_evolves _ _)).trans (State.noticeIf_evolves _ _ _)

theorem State.dispatch_evolves (s : State) (src : Port) (b i : Nat) (a : Action) : s.Evolves (s.dispatch src b i a) := by
  unfold State.dispatch
  split
  · exact s.dropRef_evolves b
  · exact s.dispatchForward_evolves _ _ _ _
  · exact s.dispatchExchange_evolves _ _ _ _ _ _ _

theorem State.classify_evolves (s : State) (src : Port) (b : Nat) : s.Evolves (s.classify src b) := by
  unfold State.classify
  split
  · exact (s.count_evolves _ _).trans (State.dropRef_evolves _ _)
  · exact (s.withRules_evolves _).trans (State.dispatch_evolves _ _ _ _ _)

/-! ### Transmitters -/

theorem State.startSending_evolves (s : State) (p : Port) (c : Current) : s.Evolves (s.startSending p c) :=
  s.withPort_evolves _ _

theorem State.reportTake_evolves (s : State) (p : Port) (d : Descriptor) : s.Evolves (s.reportTake p d) := by
  unfold State.reportTake
  split
  · exact .refl s
  · split
    · exact .refl s
    · split
      · exact s.openExchange_evolves _ _ _
      · exact s.withSlot_evolves _ _
      · exact s.withSlot_evolves _ _
      · exact s.withSlot_evolves _ _

theorem State.startRetry_evolves (s : State) (p : Port) (r : ExchangeRecord) : s.Evolves (s.startRetry p r) := by
  unfold State.startRetry
  split
  · exact ((s.withPool_evolves (.addRef _ (.refl _))).trans (State.withSlot_evolves _ _ _)).trans
      (State.startSending_evolves _ _ _)
  · exact .refl s

theorem State.begin_evolves (s : State) (p : Port) (c : Choice) : s.Evolves (s.begin p c) := by
  unfold State.begin
  split
  · exact s.startRetry_evolves _ _
  · exact s.startSending_evolves _ _
  · exact s.startSending_evolves _ _
  · exact ((s.withQueue_evolves _ _).trans (State.startSending_evolves _ _ _)).trans (State.reportTake_evolves _ _ _)

theorem State.startPort_evolves (s : State) (p : Port) : s.Evolves (s.startPort p) := by
  have wait : s.Evolves
      (match s.choice p with
        | none => s
        | some c => if s.startCondition p then s.begin p c else s.withTx p { (s.port p).tx with state := .waiting }) := by
    split
    · exact .refl s
    · split
      · exact s.begin_evolves _ _
      · exact s.withTx_evolves _ _
  unfold State.startPort
  split
  · exact .refl s
  · exact .refl s
  · exact wait
  · exact wait

theorem State.slotForRole_evolves (s : State) (p : Port) (r : Role) : s.Evolves (s.slotForRole p r) := by
  unfold State.slotForRole
  split
  · exact .refl s
  · exact s.withSlot_evolves _ _

theorem State.activateSettings_evolves (s : State) (p : Port) (st : Settings) : s.Evolves (s.activateSettings p st) :=
  (s.withPort_evolves _ _).trans (State.slotForRole_evolves _ _ _)

theorem State.applyPending_evolves (s : State) (p : Port) : s.Evolves (s.applyPending p) := by
  unfold State.applyPending
  split
  · exact .refl s
  · split
    · exact s.activateSettings_evolves _ _
    · exact .refl s

theorem State.followUp_evolves (s : State) : s.Evolves s.followUp :=
  (State.foldl_evolves State.startPort_evolves Port.list s).trans (State.foldl_evolves State.applyPending_evolves Port.list _)

theorem State.finish_evolves (s : State) : s.Evolves s.finish := s.formAlert_evolves.trans (State.followUp_evolves _)

theorem State.abortSending_evolves (s : State) (p : Port) : s.Evolves (s.abortSending p) := by
  unfold State.abortSending
  split
  · exact ((s.withTx_evolves _ _).trans (State.count_evolves _ _ _)).trans (State.dropRef?_evolves _ _)
  · exact s.withTx_evolves _ _
  · exact s.withTx_evolves _ _
  · exact s.withTx_evolves _ _

theorem State.flushQueue_evolves (s : State) (p : Port) : s.Evolves (s.flushQueue p) :=
  ((s.dropRefs_evolves _).trans (State.withQueue_evolves _ _ _)).trans (State.withLane_evolves _ _ _)

/-! ### The store and resets -/

theorem State.beginCommit_evolves (s : State) : s.Evolves s.beginCommit := s.withStore_evolves _
theorem State.endCommit_evolves (s : State) (j : CommitJob) (w : List (Nat × Byte)) : s.Evolves (s.endCommit j w) :=
  s.withStore_evolves _
theorem State.beginStartup_evolves (s : State) : s.Evolves s.beginStartup := s.withStore_evolves _

theorem State.bringUp_evolves (s : State) (p : Port) (r : PortRecord) : s.Evolves (s.bringUp p r) :=
  (s.withPort_evolves _ _).trans (State.slotForRole_evolves _ _ _)

theorem State.applyStartup_evolves (s : State) (pr : Profile) : s.Evolves (s.applyStartup pr) := by
  unfold State.applyStartup
  dsimp only
  refine State.Evolves.trans ?_ (State.withStore_evolves _ _)
  refine State.Evolves.trans ?_
    (State.foldl_evolves (f := fun s p => s.bringUp p (pr.ports.get p)) (fun s p => s.bringUp_evolves _ _) _ _)
  exact (((s.withRules_evolves _).trans (State.withAgent_evolves _ _)).trans (State.raiseCause_evolves _ _)).trans
    (State.formAlert_evolves _)

theorem State.coldWipe_evolves (s : State) (c : ResetCause) : s.Evolves (s.coldWipe c) :=
  ⟨rfl, rfl, rfl, rfl, rfl, rfl, .afresh _ (.refl _)⟩

theorem State.warmPort_evolves (s : State) (p : Port) : s.Evolves (s.warmPort p) :=
  (s.abortSending_evolves p).trans (State.withPort_evolves _ _ _)

theorem State.warmSlot_evolves (s : State) (sg : Seg) : s.Evolves (s.warmSlot sg) := by
  unfold State.warmSlot
  dsimp only
  split
  · exact (s.countExchange_evolves _ _).trans (State.withSlot_evolves _ _ _)
  · exact s.withSlot_evolves _ _

theorem State.warmReset_evolves (s : State) : s.Evolves s.warmReset := by
  have h : s.Evolves (Seg.list.foldl State.warmSlot (Port.list.foldl State.warmPort s)) :=
    (State.foldl_evolves State.warmPort_evolves Port.list s).trans (State.foldl_evolves State.warmSlot_evolves Seg.list _)
  unfold State.warmReset
  dsimp only
  refine State.Evolves.trans ?_ (State.beginStartup_evolves _)
  exact h.trans ⟨rfl, rfl, rfl, rfl, rfl, rfl, .afresh _ (.refl _)⟩

theorem State.coldReset_evolves (s : State) : s.Evolves s.coldReset :=
  (s.coldWipe_evolves _).trans (State.beginStartup_evolves _)

theorem State.restart_evolves (s : State) (f : RestartForm) : s.Evolves (s.restart f) := by
  unfold State.restart
  split
  · exact s.coldReset_evolves
  · exact s.warmReset_evolves

/-! ### The agent -/

theorem State.settleAddress_evolves (s : State) (id : Nat) : s.Evolves (s.settleAddress id) := by
  unfold State.settleAddress
  split
  · exact .refl s
  · split
    · exact s.withAgent_evolves _
    · exact .refl s

theorem State.settleReply_evolves (s : State) (r : Reply) : s.Evolves (s.settleReply r) := by
  unfold State.settleReply
  split
  · exact s.settleAddress_evolves _
  · exact (s.settleAddress_evolves _).trans (State.restart_evolves _ _)

theorem State.numberReply_evolves (s : State) : s.Evolves s.numberReply := s.withAgent_evolves _

theorem State.offerReply_evolves (s : State) (p : Port) (r : Reply) : s.Evolves (s.offerReply p r) := by
  unfold State.offerReply
  split
  · exact s.settleReply_evolves r
  · split
    · exact s.withLane_evolves _ _
    · exact s.withAgent_evolves _

theorem State.answer_evolves (s : State) (rq : Request) (o : CommandOutcome) (bs : List Byte) (f : Option RestartForm) :
    s.Evolves (s.answer rq o bs f) := s.numberReply_evolves.trans (State.offerReply_evolves _ _ _)

theorem State.answerPlain_evolves (s : State) (rq : Request) (o : CommandOutcome) : s.Evolves (s.answerPlain rq o) :=
  s.answer_evolves _ _ _ _

theorem State.laneFree_evolves (s : State) (p : Port) : s.Evolves (s.laneFree p) := by
  unfold State.laneFree
  split
  · exact (s.withAgent_evolves _).trans (State.withLane_evolves _ _ _)
  · split
    · exact .refl s
    · split
      · exact (s.withAgent_evolves _).trans (State.withLane_evolves _ _ _)
      · exact .refl s

theorem State.formDeferred_evolves (s : State) (rq : Request) : s.Evolves (s.formDeferred rq) := s.withAgent_evolves _

theorem State.offerDeferred_evolves (s : State) (o : CommandOutcome) : s.Evolves (s.offerDeferred o) := by
  unfold State.offerDeferred
  split
  · exact .refl s
  · dsimp only
    split
    · exact (s.numberReply_evolves.trans (State.withAgent_evolves _ _)).trans (State.settleReply_evolves _ _)
    · split
      · exact (s.numberReply_evolves.trans (State.withAgent_evolves _ _)).trans (State.withLane_evolves _ _ _)
      · exact s.numberReply_evolves.trans (State.withAgent_evolves _ _)

theorem State.loseDeferred_evolves (s : State) (p : Port) : s.Evolves (s.loseDeferred p) := by
  unfold State.loseDeferred
  split
  · exact .refl s
  · split
    · exact .refl s
    · split
      · exact (s.withAgent_evolves _).trans (State.settleAddress_evolves _ _)
      · exact .refl s

theorem State.reportManagement_evolves (s : State) (p : Port) : s.Evolves (s.reportManagement p) := by
  cases p with
  | trunk => exact s.reportTrunkManagement_evolves
  | seg _ => exact .refl s

theorem State.joinInput_evolves (s : State) (p : Port) (b : Nat) : s.Evolves (s.joinInput p b) := by
  unfold State.joinInput
  split
  · exact s.withAgent_evolves _
  · exact (s.count_evolves _ _).trans (State.dropRef_evolves _ _)

theorem State.takeManagementFrame_evolves (s : State) (p : Port) (b : Nat) : s.Evolves (s.takeManagementFrame p b) :=
  (s.reportManagement_evolves p).trans (State.joinInput_evolves _ _ _)

theorem State.afterTake_evolves (s : State) (e : InputEntry) : s.Evolves (s.afterTake e) :=
  (s.withAgent_evolves _).trans (State.dropRef_evolves _ _)

theorem State.checked_evolves {α : Type} (s : State) (rq : Request) (k : Permit) (read : List Byte → Option α)
    {act : α → State} (h : ∀ x, s.Evolves (act x)) : s.Evolves (s.checked rq k read act) := by
  unfold State.checked
  split
  · split
    · exact s.answerPlain_evolves _ _
    · exact h _
  · exact s.answerPlain_evolves _ _

/-- The taking of a command evolves the state if carrying it out does. -/
theorem State.takeCommand_evolves (s : State) (i : Instr) {f : Request → State → State}
    (h : ∀ rq s, State.Evolves s (f rq s)) : s.Evolves (s.takeCommand i f) := by
  unfold State.takeCommand
  split
  · split
    · exact .refl s
    · split
      · exact ((s.afterTake_evolves _).trans (State.count_evolves _ _ _)).trans (State.followUp_evolves _)
      · exact ((s.afterTake_evolves _).trans (h _ _)).trans (State.followUp_evolves _)
  · exact .refl s

end Sys2Proof.Machine
end

