-- ==== Sys2Proof/Laws/Commands.lean ====
section
/-! SUPPORT. Every command evolves the state, the commands of reset, supply and clock apart: the operations of the receiver,
the send end, the timers, the store's completions and the management commands, each once. -/

namespace Sys2Proof.Machine

theorem State.whenClocked_evolves (s : State) {f : State → State} (h : ∀ s, State.Evolves s (f s)) :
    s.Evolves (s.whenClocked f) := by
  unfold State.whenClocked
  split
  · exact h s
  · exact .refl s

/-! ### The receiver -/

theorem State.countErrors_evolves (s : State) (p : Port) (e : ErrorSet) : s.Evolves (s.countErrors p e) :=
  ((((s.countIf_evolves _ _ _).trans (State.countIf_evolves _ _ _ _)).trans (State.countIf_evolves _ _ _ _)).trans
    (State.countIf_evolves _ _ _ _)).trans (State.countIf_evolves _ _ _ _)

theorem State.dropOrFailAttempt_evolves (s : State) (p : Port) (b : Nat) : s.Evolves (s.dropOrFailAttempt p b) := by
  unfold State.dropOrFailAttempt
  split
  · exact s.dropRef_evolves b
  · split
    · exact (s.dropRef_evolves b).trans (State.attemptBadReply_evolves _ _ _)
    · exact s.dropRef_evolves b

theorem State.routeErrored_evolves (s : State) (p : Port) (b : Nat) (e : ErrorSet) (t : Stamp) :
    s.Evolves (s.routeErrored p b e t) :=
  ((s.countErrors_evolves _ _).trans (State.offerSnapshot_evolves _ _ _ _ _ _)).trans (State.dropOrFailAttempt_evolves _ _ _)

theorem State.routeOrdinary_evolves (s : State) (p : Port) (b : Nat) : s.Evolves (s.routeOrdinary p b) := by
  unfold State.routeOrdinary
  split
  · exact s.takeManagementFrame_evolves p b
  · exact s.classify_evolves p b

theorem State.judgeAnswer_evolves (s : State) (sg : Seg) (r : ExchangeRecord) (b : Nat) : s.Evolves (s.judgeAnswer sg r b) := by
  unfold State.judgeAnswer
  split
  · exact s.exchangeReplied_evolves _ _ _
  · exact (s.dropRef_evolves b).trans (State.attemptBadReply_evolves _ _ _)

theorem State.judgeLate_evolves (s : State) (sg : Seg) (r : ExchangeRecord) (b : Nat) : s.Evolves (s.judgeLate sg r b) := by
  unfold State.judgeLate
  split
  · exact (s.countExchange_evolves _ _).trans (State.dropRef_evolves _ _)
  · exact s.classify_evolves _ _

theorem State.routeClean_evolves (s : State) (p : Port) (b : Nat) : s.Evolves (s.routeClean p b) := by
  unfold State.routeClean
  split
  · exact s.routeOrdinary_evolves _ _
  · split
    · exact s.judgeAnswer_evolves _ _ _
    · exact s.judgeLate_evolves _ _ _
    · exact s.routeOrdinary_evolves _ _

theorem State.complete_evolves (s : State) (p : Port) (f : Assembly) : s.Evolves (s.complete p f) := by
  have h : s.Evolves ((s.withPool (s.pool.setLength f.buffer f.length)).count p .rxframes) :=
    (s.withPool_evolves (.setLength _ _ (.refl _))).trans (State.count_evolves _ _ _)
  unfold State.complete
  dsimp only
  split
  · exact h.trans (State.routeClean_evolves _ _ _)
  · exact h.trans (State.routeErrored_evolves _ _ _ _ _)

theorem State.guardFromCharacter_evolves (s : State) (p : Port) (t : Nat) : s.Evolves (s.guardFromCharacter p t) := by
  unfold State.guardFromCharacter
  split
  · exact .refl s
  · exact s.withGuard_evolves _ _

theorem State.arriveIdle_evolves (s : State) (p : Port) : s.Evolves (s.arriveIdle p) := by
  unfold State.arriveIdle
  dsimp only
  split
  · rename_i b m hm
    exact ((s.withPool_evolves (.reserve (.refl _) hm)).trans (State.withRx_evolves _ _ _)).trans
      (State.reportArrival_evolves _ _)
  · exact (((((s.withRx_evolves _ _).trans (State.count_evolves _ _ _)).trans (State.offerSnapshot_evolves _ _ _ _ _ _)).trans
      (State.raiseCause_evolves _ _)).trans (State.reportArrival_evolves _ _)).trans (State.finish_evolves _)

theorem State.arrive_evolves (s : State) (p : Port) : s.Evolves (s.arrive p) := by
  unfold State.arrive
  dsimp only
  split
  · exact .refl s
  · split
    · exact .refl s
    · exact .refl s
    · exact s.arriveIdle_evolves p
    · exact s.withRx_evolves _ _
    · exact s.withRx_evolves _ _

theorem State.assemble_evolves (s : State) (p : Port) (f : Assembly) (d : Byte) (a b : Bool) (t : Nat) :
    s.Evolves (s.assemble p f d a b t) := by
  unfold State.assemble
  split
  · exact (s.withPool_evolves (.store _ _ _ (.refl _))).trans (State.withRx_evolves _ _ _)
  · exact s.withRx_evolves _ _

theorem State.takeCharacter_evolves (s : State) (p : Port) (d : Byte) (a b : Bool) (t : Nat) :
    s.Evolves (s.takeCharacter p d a b t) := by
  unfold State.takeCharacter
  split
  · exact .refl s
  · exact .refl s
  · exact .refl s
  · exact (s.assemble_evolves _ _ _ _ _ _).trans (State.guardFromCharacter_evolves _ _ _)
  · exact (s.withRx_evolves _ _).trans (State.guardFromCharacter_evolves _ _ _)
  · exact (s.withRx_evolves _ _).trans (State.guardFromCharacter_evolves _ _ _)
  · exact (s.withRx_evolves _ _).trans (State.guardFromCharacter_evolves _ _ _)

theorem State.receive_evolves (s : State) (p : Port) (d : Byte) (a b : Bool) : s.Evolves (s.receive p d a b) := by
  unfold State.receive
  dsimp only
  split
  · exact .refl s
  · split
    · exact s.withRx_evolves _ _
    · exact s.takeCharacter_evolves _ _ _ _ _

theorem State.releaseHeld_evolves (s : State) (p : Port) : s.Evolves (s.releaseHeld p) := by
  unfold State.releaseHeld
  split
  · exact .refl s
  · exact s.takeCharacter_evolves _ _ _ _ _

theorem State.storeBreakByte_evolves (s : State) (f : Assembly) : s.Evolves (s.storeBreakByte f) := by
  unfold State.storeBreakByte
  split
  · exact s.withPool_evolves (.store _ _ _ (.refl _))
  · exact .refl s

theorem State.declareBreak_evolves (s : State) (p : Port) : s.Evolves (s.declareBreak p) := by
  unfold State.declareBreak
  split
  · exact .refl s
  · split
    · exact .refl s
    · exact .refl s
    · exact .refl s
    · exact (((s.storeBreakByte_evolves _).trans (State.withRx_evolves _ _ _)).trans (State.complete_evolves _ _ _)).trans
        (State.finish_evolves _)
    · exact ((s.withRx_evolves _ _).trans (State.complete_evolves _ _ _)).trans (State.finish_evolves _)
    · exact s.withRx_evolves _ _
    · exact s.withRx_evolves _ _

theorem State.lineHigh_evolves (s : State) (p : Port) : s.Evolves (s.lineHigh p) := by
  unfold State.lineHigh
  split
  · exact s.withRx_evolves _ _
  · exact .refl s

theorem State.gapExpires_evolves (s : State) (p : Port) : s.Evolves (s.gapExpires p) := by
  unfold State.gapExpires
  split
  · split
    · exact .refl s
    · exact .refl s
    · exact .refl s
    · exact ((s.withRx_evolves _ _).trans (State.complete_evolves _ _ _)).trans (State.finish_evolves _)
    · exact ((s.withRx_evolves _ _).trans (State.complete_evolves _ _ _)).trans (State.finish_evolves _)
    · exact ((s.withRx_evolves _ _).trans (State.reportDiscardEnd_evolves _ _)).trans (State.finish_evolves _)
    · exact (s.withRx_evolves _ _).trans (State.finish_evolves _)
  · exact .refl s

/-! ### Send end and timers -/

theorem State.guardRunsOut_evolves (s : State) (sg : Seg) : s.Evolves (s.guardRunsOut sg) :=
  (s.withPort_evolves _ _).trans (State.followUp_evolves _)

theorem State.guardYields_evolves (s : State) (sg : Seg) (t : Nat) : s.Evolves (s.guardYields sg t) := s.withGuard_evolves _ _

theorem State.guardExpires_evolves (s : State) (sg : Seg) (edgeInside : Bool) : s.Evolves (s.guardExpires sg edgeInside) := by
  unfold State.guardExpires
  split
  · exact .refl s
  · exact .refl s
  all_goals
    split
    · exact s.guardYields_evolves _ _
    · exact s.guardRunsOut_evolves _

theorem State.slotSettles_evolves (s : State) (p : Port) : s.Evolves (s.slotSettles p) := by
  unfold State.slotSettles
  split
  · exact .refl s
  · split
    · exact s.withSlot_evolves _ _
    · exact .refl s

theorem State.slotAwaits_evolves (s : State) (sg : Seg) (r : ExchangeRecord) : s.Evolves (s.slotAwaits sg r) :=
  s.withSlot_evolves _ _

theorem State.finishDescriptor_evolves (s : State) (p : Port) (d : Descriptor) : s.Evolves (s.finishDescriptor p d) := by
  unfold State.finishDescriptor
  split
  · split
    · exact s.slotAwaits_evolves _ _
    · exact s.dropRef_evolves _
  · exact (s.dropRef_evolves _).trans (State.slotSettles_evolves _ _)
  · exact (s.dropRef_evolves _).trans (State.slotSettles_evolves _ _)
  · exact (s.dropRef_evolves _).trans (State.slotSettles_evolves _ _)

theorem State.finishRetry_evolves (s : State) (p : Port) (b : Nat) : s.Evolves (s.finishRetry p b) := by
  unfold State.finishRetry
  split
  · exact (s.dropRef_evolves _).trans (State.slotAwaits_evolves _ _ _)
  · exact s.dropRef_evolves _

theorem State.finishReply_evolves (s : State) (p : Port) : s.Evolves (s.finishReply p) := by
  unfold State.finishReply
  split
  · exact .refl s
  · split
    · exact (s.withLane_evolves _ _).trans (State.restart_evolves _ _)
    · exact ((s.withLane_evolves _ _).trans (State.settleAddress_evolves _ _)).trans (State.laneFree_evolves _ _)

theorem State.finishAlert_evolves (s : State) : s.Evolves s.finishAlert := by
  unfold State.finishAlert
  split
  · exact (s.withAlertLane_evolves _).trans (State.withAlert_evolves _ _)
  · exact (s.withAlertLane_evolves _).trans (State.formAlert_evolves _)
  · exact s.withAlertLane_evolves _

theorem State.finishCurrent_evolves (s : State) (p : Port) (c : Current) : s.Evolves (s.finishCurrent p c) := by
  unfold State.finishCurrent
  split
  · exact s.finishDescriptor_evolves _ _
  · exact s.finishRetry_evolves _ _
  · exact s.finishReply_evolves _
  · exact s.finishAlert_evolves

theorem State.sendEnds_evolves (s : State) (p : Port) : s.Evolves (s.sendEnds p) := by
  unfold State.sendEnds
  split
  · exact .refl s
  · exact .refl s
  · exact .refl s
  · exact (((s.withPort_evolves _ _).trans (State.count_evolves _ _ _)).trans (State.finishCurrent_evolves _ _ _)).trans
      (State.followUp_evolves _)

theorem State.responseExpires_evolves (s : State) (sg : Seg) : s.Evolves (s.responseExpires sg) := by
  unfold State.responseExpires
  split
  · exact (s.attemptTimedOut_evolves _ _).trans (State.finish_evolves _)
  · exact .refl s

theorem State.lapseExpires_evolves (s : State) (sg : Seg) : s.Evolves (s.lapseExpires sg) := by
  unfold State.lapseExpires
  split
  · exact (s.withSlot_evolves _ _).trans (State.followUp_evolves _)
  · exact .refl s

theorem State.settleExpires_evolves (s : State) (sg : Seg) : s.Evolves (s.settleExpires sg) := by
  unfold State.settleExpires
  split
  · exact (s.withSlot_evolves _ _).trans (State.followUp_evolves _)
  · exact .refl s

theorem State.repeatExpires_evolves (s : State) : s.Evolves s.repeatExpires := by
  unfold State.repeatExpires
  split
  · split
    · exact ((s.withAlert_evolves _).trans (State.placeCurrentAlert_evolves _)).trans (State.followUp_evolves _)
    · exact s.withAlert_evolves _
  · exact .refl s

/-! ### The store's completions -/

theorem State.commitCompletes_evolves (s : State) (w : List (Nat × Byte)) : s.Evolves (s.commitCompletes w) := by
  unfold State.commitCompletes
  split
  · split
    · exact ((s.endCommit_evolves _ _).trans (State.offerDeferred_evolves _ _)).trans (State.followUp_evolves _)
    · exact (((s.endCommit_evolves _ _).trans (State.offerDeferred_evolves _ _)).trans (State.raiseCause_evolves _ _)).trans
        (State.finish_evolves _)
  · exact .refl s
  · exact .refl s
  · exact .refl s

theorem State.placeRecords_evolves (s : State) (r : PerPort PortRecord) : s.Evolves (s.placeRecords r) :=
  State.foldl_evolves (f := fun s p => s.withPendingSettings p (some (r.get p).settings))
    (fun s _ => s.withPendingSettings_evolves _ _) _ s

theorem State.applyLoad_evolves (s : State) (pr : Profile) : s.Evolves (s.applyLoad pr) := by
  have h : s.Evolves ((s.withStore { s.store with state := .idle }).awaitSettings pr.agent) :=
    (s.withStore_evolves _).trans (State.withAgent_evolves _ _)
  exact (((h.trans (State.offerDeferred_evolves _ _)).trans (State.withRules_evolves _ _)).trans
    (State.placeRecords_evolves _ _)).trans (State.followUp_evolves _)

theorem State.loadCompletes_evolves (s : State) : s.Evolves s.loadCompletes := by
  unfold State.loadCompletes
  split
  · exact s.applyLoad_evolves _
  · exact .refl s
  · exact .refl s
  · exact .refl s

theorem State.startupCompletes_evolves (s : State) : s.Evolves s.startupCompletes := by
  unfold State.startupCompletes
  split
  · exact (s.applyStartup_evolves _).trans (State.followUp_evolves _)
  · exact .refl s
  · exact .refl s
  · exact .refl s

/-! ### Management -/

theorem State.enablePort_evolves (s : State) (p : Port) : s.Evolves (s.enablePort p) := by
  unfold State.enablePort
  dsimp only
  split
  · exact .refl s
  · exact (s.withPort_evolves _ _).trans (State.slotForRole_evolves _ _ _)

theorem State.settleLost_evolves (s : State) (r : Option Reply) : s.Evolves (s.settleLost r) := by
  unfold State.settleLost
  split
  · exact .refl s
  · exact s.settleAddress_evolves _

theorem State.receiverOff_evolves (s : State) (p : Port) : s.Evolves (s.receiverOff p) :=
  (s.withPort_evolves _ _).trans (State.dropRef?_evolves _ _)

theorem State.disableSegment_evolves (s : State) (sg : Seg) : s.Evolves (s.disableSegment sg) := by
  unfold State.disableSegment
  split
  · exact (((((s.receiverOff_evolves _).trans (State.abortSending_evolves _ _)).trans (State.flushQueue_evolves _ _)).trans
      (State.settleLost_evolves _ _)).trans (State.loseDeferred_evolves _ _)).trans (State.cancelExchange_evolves _ _)
  · exact .refl s

theorem State.restartIf_evolves (s : State) (f : Option RestartForm) : s.Evolves (s.restartIf f) := by
  unfold State.restartIf
  split
  · exact .refl s
  · exact s.restart_evolves _

theorem State.clearWatermark_evolves (s : State) : s.Evolves s.clearWatermark :=
  s.withPool_evolves (.watermark _ (.refl _))

theorem State.zeroPort_evolves (s : State) (p : Port) : s.Evolves (s.zeroPort p) := by
  unfold State.zeroPort
  dsimp only
  split
  · exact s.withPort_evolves _ _
  · exact (s.withPort_evolves _ _).trans (State.withSeg_evolves _ _ _)

theorem State.acknowledge_evolves (s : State) : s.Evolves s.acknowledge :=
  (s.withAlert_evolves _).trans (State.formAlert_evolves _)

theorem doIdentify_evolves (rq : Request) (s : State) : s.Evolves (doIdentify rq s) :=
  s.checked_evolves _ _ _ fun _ => s.answer_evolves _ _ _ _
theorem doUnknown_evolves (rq : Request) (s : State) : s.Evolves (doUnknown rq s) := s.answerPlain_evolves _ _
theorem doReadStatus_evolves (rq : Request) (s : State) : s.Evolves (doReadStatus rq s) :=
  s.checked_evolves _ _ _ fun _ => s.answer_evolves _ _ _ _
theorem doReadPort_evolves (rq : Request) (s : State) : s.Evolves (doReadPort rq s) :=
  s.checked_evolves _ _ _ fun _ => s.answer_evolves _ _ _ _
theorem doSetPort_evolves (rq : Request) (s : State) : s.Evolves (doSetPort rq s) :=
  s.checked_evolves _ _ _ fun _ => (s.answerPlain_evolves _ _).trans (State.withPendingSettings_evolves _ _ _)
theorem doEnablePort_evolves (rq : Request) (s : State) : s.Evolves (doEnablePort rq s) :=
  s.checked_evolves _ _ _ fun _ => (s.enablePort_evolves _).trans (State.answerPlain_evolves _ _ _)
theorem doDisablePort_evolves (rq : Request) (s : State) : s.Evolves (doDisablePort rq s) :=
  s.checked_evolves _ _ _ fun _ =>
    ((s.disableSegment_evolves _).trans (State.answerPlain_evolves _ _ _)).trans (State.restartIf_evolves _ _)
theorem doReadRule_evolves (rq : Request) (s : State) : s.Evolves (doReadRule rq s) := by
  refine s.checked_evolves _ _ _ fun i => ?_
  split
  · exact s.answerPlain_evolves _ _
  · exact s.answer_evolves _ _ _ _
theorem doWriteRule_evolves (rq : Request) (s : State) : s.Evolves (doWriteRule rq s) :=
  s.checked_evolves _ _ _ fun _ => (s.withRules_evolves _).trans (State.answerPlain_evolves _ _ _)
theorem doDeleteRule_evolves (rq : Request) (s : State) : s.Evolves (doDeleteRule rq s) := by
  refine s.checked_evolves _ _ _ fun i => ?_
  split
  · exact s.answerPlain_evolves _ _
  · exact (s.withRules_evolves _).trans (State.answerPlain_evolves _ _ _)
theorem doReadHits_evolves (rq : Request) (s : State) : s.Evolves (doReadHits rq s) :=
  s.checked_evolves _ _ _ fun _ => s.answer_evolves _ _ _ _
theorem doReadCounters_evolves (rq : Request) (s : State) : s.Evolves (doReadCounters rq s) :=
  s.checked_evolves _ _ _ fun _ => s.answer_evolves _ _ _ _
theorem doClearPort_evolves (rq : Request) (s : State) : s.Evolves (doClearPort rq s) :=
  s.checked_evolves _ _ _ fun _ =>
    ((s.zeroPort_evolves _).trans (State.clearWatermark_evolves _)).trans (State.answerPlain_evolves _ _ _)
theorem doClearAll_evolves (rq : Request) (s : State) : s.Evolves (doClearAll rq s) :=
  s.checked_evolves _ _ _ fun _ =>
    ((State.foldl_evolves State.zeroPort_evolves Port.list s).trans (State.clearWatermark_evolves _)).trans
      (State.answerPlain_evolves _ _ _)
theorem doClearHits_evolves (rq : Request) (s : State) : s.Evolves (doClearHits rq s) :=
  s.checked_evolves _ _ _ fun _ =>
    ((s.withRules_evolves _).trans (State.clearWatermark_evolves _)).trans (State.answerPlain_evolves _ _ _)
theorem doReadExchange_evolves (rq : Request) (s : State) : s.Evolves (doReadExchange rq s) :=
  s.checked_evolves _ _ _ fun _ => s.answer_evolves _ _ _ _
theorem doTakeSnapshot_evolves (rq : Request) (s : State) : s.Evolves (doTakeSnapshot rq s) := by
  refine s.checked_evolves _ _ _ fun p => ?_
  split
  · exact s.answerPlain_evolves _ _
  · exact (s.withSnapshot_evolves _ _).trans (State.answer_evolves _ _ _ _ _)
theorem doAckAlert_evolves (rq : Request) (s : State) : s.Evolves (doAckAlert rq s) := by
  refine s.checked_evolves _ _ _ fun q => ?_
  split
  · exact s.answerPlain_evolves _ _
  · split
    · exact s.acknowledge_evolves.trans (State.answerPlain_evolves _ _ _)
    · exact s.answerPlain_evolves _ _
theorem doSetAgent_evolves (rq : Request) (s : State) : s.Evolves (doSetAgent rq s) :=
  s.checked_evolves _ _ _ fun _ => (s.withAgent_evolves _).trans (State.answerPlain_evolves _ _ _)
theorem doCommit_evolves (rq : Request) (s : State) : s.Evolves (doCommit rq s) :=
  s.checked_evolves _ _ _ fun _ => (s.formDeferred_evolves _).trans (State.beginCommit_evolves _)
theorem doLoad_evolves (rq : Request) (s : State) : s.Evolves (doLoad rq s) := by
  refine s.checked_evolves _ _ _ fun _ => ?_
  split
  · exact s.answerPlain_evolves _ _
  · exact (s.formDeferred_evolves _).trans (State.withStore_evolves _ _)
theorem doReadStore_evolves (rq : Request) (s : State) : s.Evolves (doReadStore rq s) :=
  s.checked_evolves _ _ _ fun _ => s.answer_evolves _ _ _ _
theorem doRestartCold_evolves (rq : Request) (s : State) : s.Evolves (doRestartCold rq s) :=
  s.checked_evolves _ _ _ fun _ => s.answer_evolves _ _ _ _
theorem doRestartWarm_evolves (rq : Request) (s : State) : s.Evolves (doRestartWarm rq s) :=
  s.checked_evolves _ _ _ fun _ => s.answer_evolves _ _ _ _

/-! ### Every command -/

/-- Every command of the lines, the timers, the store and the agent evolves the state. -/
theorem exec_evolves {c : Instr} {s t : State} (hc : isOutside c = false) (h : exec c s = .next t) : s.Evolves t := by
  cases c <;> simp only [isOutside, Bool.true_eq_false] at hc
  case commitCompletion w =>
    simp only [exec, execCommitCompletion] at h
    split at h
    · injection h with h; subst h; exact s.whenClocked_evolves fun s => s.commitCompletes_evolves w
    · nomatch h
  case characterArrival p => injection h with h; subst h; exact s.whenClocked_evolves fun s => s.arrive_evolves p
  case characterReceived p d a b =>
    injection h with h; subst h; exact s.whenClocked_evolves fun s => s.receive_evolves p d a b
  case heldCharacterReleased p => injection h with h; subst h; exact s.whenClocked_evolves fun s => s.releaseHeld_evolves p
  case breakDeclared p => injection h with h; subst h; exact s.whenClocked_evolves fun s => s.declareBreak_evolves p
  case gapTimerExpiry p => injection h with h; subst h; exact s.whenClocked_evolves fun s => s.gapExpires_evolves p
  case turnaroundGuardExpiry g x =>
    injection h with h; subst h; exact s.whenClocked_evolves fun s => s.guardExpires_evolves g x
  case sendEnd p => injection h with h; subst h; exact s.whenClocked_evolves fun s => s.sendEnds_evolves p
  case responseTimerExpiry g => injection h with h; subst h; exact s.whenClocked_evolves fun s => s.responseExpires_evolves g
  case lapseTimerExpiry g => injection h with h; subst h; exact s.whenClocked_evolves fun s => s.lapseExpires_evolves g
  case settleTimerExpiry g => injection h with h; subst h; exact s.whenClocked_evolves fun s => s.settleExpires_evolves g
  case repeatTimerExpiry => injection h with h; subst h; exact s.whenClocked_evolves fun s => s.repeatExpires_evolves
  case loadCompletion => injection h with h; subst h; exact s.whenClocked_evolves fun s => s.loadCompletes_evolves
  case startupLoadCompletion => injection h with h; subst h; exact s.whenClocked_evolves fun s => s.startupCompletes_evolves
  case lineReturnsHighAfterBreak p => injection h with h; subst h; exact s.whenClocked_evolves fun s => s.lineHigh_evolves p
  case identify => injection h with h; subst h; exact s.takeCommand_evolves _ doIdentify_evolves
  case unknownCommand => injection h with h; subst h; exact s.takeCommand_evolves _ doUnknown_evolves
  case readStatus => injection h with h; subst h; exact s.takeCommand_evolves _ doReadStatus_evolves
  case readPort => injection h with h; subst h; exact s.takeCommand_evolves _ doReadPort_evolves
  case setPort => injection h with h; subst h; exact s.takeCommand_evolves _ doSetPort_evolves
  case enablePort => injection h with h; subst h; exact s.takeCommand_evolves _ doEnablePort_evolves
  case disablePort => injection h with h; subst h; exact s.takeCommand_evolves _ doDisablePort_evolves
  case readRule => injection h with h; subst h; exact s.takeCommand_evolves _ doReadRule_evolves
  case writeRule => injection h with h; subst h; exact s.takeCommand_evolves _ doWriteRule_evolves
  case deleteRule => injection h with h; subst h; exact s.takeCommand_evolves _ doDeleteRule_evolves
  case readHits => injection h with h; subst h; exact s.takeCommand_evolves _ doReadHits_evolves
  case readCounters => injection h with h; subst h; exact s.takeCommand_evolves _ doReadCounters_evolves
  case clearCountersPort => injection h with h; subst h; exact s.takeCommand_evolves _ doClearPort_evolves
  case clearCountersAll => injection h with h; subst h; exact s.takeCommand_evolves _ doClearAll_evolves
  case clearCountersHits => injection h with h; subst h; exact s.takeCommand_evolves _ doClearHits_evolves
  case readExchange => injection h with h; subst h; exact s.takeCommand_evolves _ doReadExchange_evolves
  case takeSnapshot => injection h with h; subst h; exact s.takeCommand_evolves _ doTakeSnapshot_evolves
  case ackAlert => injection h with h; subst h; exact s.takeCommand_evolves _ doAckAlert_evolves
  case setAgent => injection h with h; subst h; exact s.takeCommand_evolves _ doSetAgent_evolves
  case commit => injection h with h; subst h; exact s.takeCommand_evolves _ doCommit_evolves
  case load => injection h with h; subst h; exact s.takeCommand_evolves _ doLoad_evolves
  case readStore => injection h with h; subst h; exact s.takeCommand_evolves _ doReadStore_evolves
  case restartCold => injection h with h; subst h; exact s.takeCommand_evolves _ doRestartCold_evolves
  case restartWarm => injection h with h; subst h; exact s.takeCommand_evolves _ doRestartWarm_evolves

end Sys2Proof.Machine
end

