-- ==== Sys2Proof/Laws/FollowUp.lean ====
section
/-! SUPPORT. Once and for all what may follow within an event after its own effects (`State.followUp`): transmissions start and
pending records become active; everything named here is left as it was. -/

namespace Sys2Proof.Machine

theorem State.StartsFrom.refl (s : State) : s.StartsFrom s where
  pending := rfl
  now := rfl
  timeBase := rfl
  subMicro := rfl
  clockRunning := rfl
  supply := rfl
  pinHeld := rfl
  resetCause := rfl
  freeCount := rfl
  alertLane := rfl
  rules := rfl
  agent := rfl
  alert := rfl
  store := rfl
  free := rfl
  lens := rfl
  ram := rfl
  watermark := rfl
  enabled _ := rfl
  lane _ := rfl
  counters _ := rfl
  snapshot _ := rfl
  settings _ h := ⟨rfl, h⟩
  offered _ _ h := Or.inl ⟨rfl, h⟩
  off _ _ := rfl
  sending _ _ _ _ := rfl
  awake _ h := h
  rx _ := Or.inl rfl
  trunkRx := rfl
  busy _ _ := ⟨rfl, rfl⟩
  exchangeCounters _ _ _ := rfl

theorem State.StartsFrom.trans {a b c : State} (h : a.StartsFrom b) (k : b.StartsFrom c) : a.StartsFrom c where
  pending := k.pending.trans h.pending
  now := k.now.trans h.now
  timeBase := k.timeBase.trans h.timeBase
  subMicro := k.subMicro.trans h.subMicro
  clockRunning := k.clockRunning.trans h.clockRunning
  supply := k.supply.trans h.supply
  pinHeld := k.pinHeld.trans h.pinHeld
  resetCause := k.resetCause.trans h.resetCause
  freeCount := k.freeCount.trans h.freeCount
  alertLane := k.alertLane.trans h.alertLane
  rules := k.rules.trans h.rules
  agent := k.agent.trans h.agent
  alert := k.alert.trans h.alert
  store := k.store.trans h.store
  free := k.free.trans h.free
  lens := k.lens.trans h.lens
  ram := k.ram.trans h.ram
  watermark := k.watermark.trans h.watermark
  enabled p := (k.enabled p).trans (h.enabled p)
  lane p := (k.lane p).trans (h.lane p)
  counters p := (k.counters p).trans (h.counters p)
  snapshot p := (k.snapshot p).trans (h.snapshot p)
  settings p hp := by
    have e := h.settings p hp
    have e' := k.settings p e.2
    exact ⟨e'.1.trans e.1, e'.2⟩
  offered p st hp := by
    rcases h.offered p st hp with ⟨e1, e2⟩ | ⟨e1, e2⟩
    · rcases k.offered p st e2 with ⟨f1, f2⟩ | ⟨f1, f2⟩
      · exact Or.inl ⟨f1.trans e1, f2⟩
      · exact Or.inr ⟨f1, f2⟩
    · have f := k.settings p e2
      exact Or.inr ⟨f.1.trans e1, f.2⟩
  off p hp := by
    have e := h.off p hp
    rw [k.off p (by rw [e]; exact hp), e]
  sending p c n hp := by
    have e := h.sending p c n hp
    rw [k.sending p c n (by rw [e]; exact hp), e]
  awake p hp := k.awake p (h.awake p hp)
  rx p := by
    rcases h.rx p with e | ⟨hi, he⟩
    · rcases k.rx p with e' | ⟨hi', he'⟩
      · exact Or.inl (e'.trans e)
      · exact Or.inr ⟨by rw [← e]; exact hi', he'⟩
    · rcases k.rx p with e' | ⟨hi', _⟩
      · exact Or.inr ⟨hi, e'.trans he⟩
      · rw [he] at hi'; simp [Receiver.fresh] at hi'
  trunkRx := k.trunkRx.trans h.trunkRx
  busy sg hb := by
    obtain ⟨e1, e2⟩ := h.busy sg hb
    have hb' : b.slotBusy sg := by unfold State.slotBusy; rw [e1, e2]; exact hb
    obtain ⟨f1, f2⟩ := k.busy sg hb'
    exact ⟨f1.trans e1, f2.trans e2⟩
  exchangeCounters sg j hj := (k.exchangeCounters sg j hj).trans (h.exchangeCounters sg j hj)

/-- A change of one port that neither was OFF nor SENDING, in what a start or an applied record may change. -/
theorem State.withPort_startsFrom (s : State) (p : Port) (x : PortState) (hoff : (s.port p).tx.state ≠ .off)
    (hsend : ∀ c n, (s.port p).tx.state ≠ .sending c n) (he : x.enabled = (s.port p).enabled) (hl : x.lane = (s.port p).lane)
    (hc : x.counters = (s.port p).counters) (hs : x.snapshot = (s.port p).snapshot)
    (hset : (s.port p).pendingSettings = none → x.settings = (s.port p).settings ∧ x.pendingSettings = none)
    (hoffer : ∀ st, (s.port p).pendingSettings = some st →
      (x.settings = (s.port p).settings ∧ x.pendingSettings = some st) ∨ (x.settings = st ∧ x.pendingSettings = none))
    (haw : x.tx.state ≠ .off) (hbusy : ∀ sg, p = .seg sg → s.slotBusy sg → x.settings = (s.port p).settings)
    (hr : x.rx = (s.port p).rx ∨ ((s.port p).rx.state = .idle ∧ x.rx = Receiver.fresh .muted ∧ p ≠ .trunk)) :
    s.StartsFrom (s.withPort p x) where
  pending := rfl
  now := rfl
  timeBase := rfl
  subMicro := rfl
  clockRunning := rfl
  supply := rfl
  pinHeld := rfl
  resetCause := rfl
  freeCount := rfl
  alertLane := rfl
  rules := rfl
  agent := rfl
  alert := rfl
  store := rfl
  free := rfl
  lens := rfl
  ram := rfl
  watermark := rfl
  enabled q := by by_cases h : q = p <;> [(subst h; simpa using he); simp [h]]
  lane q := by by_cases h : q = p <;> [(subst h; simpa using hl); simp [h]]
  counters q := by by_cases h : q = p <;> [(subst h; simpa using hc); simp [h]]
  snapshot q := by by_cases h : q = p <;> [(subst h; simpa using hs); simp [h]]
  settings q hq := by
    by_cases h : q = p
    · subst h; simpa using hset hq
    · simp [h, hq]
  offered q st hq := by
    by_cases h : q = p
    · subst h; simpa using hoffer st hq
    · exact Or.inl ⟨by simp [h], by simp [h, hq]⟩
  off q hq := by
    by_cases h : q = p
    · subst h; exact absurd hq hoff
    · simp [h]
  awake q hq := by
    by_cases h : q = p
    · subst h; simpa using haw
    · simpa [h] using hq
  busy sg hb := by
    refine ⟨rfl, ?_⟩
    by_cases h : Port.seg sg = p
    · subst h; simpa [State.segSettings] using hbusy sg rfl hb
    · simp [State.segSettings, h]
  sending q c n hq := by
    by_cases h : q = p
    · subst h; exact absurd hq (hsend c n)
    · simp [h]
  rx q := by
    by_cases h : q = p
    · subst h
      rcases hr with hr | ⟨h1, h2, _⟩
      · exact Or.inl (by simpa using hr)
      · exact Or.inr ⟨h1, by simpa using h2⟩
    · exact Or.inl (by simp [h])
  trunkRx := by
    by_cases h : Port.trunk = p
    · subst h
      rcases hr with hr | ⟨_, _, h3⟩
      · simpa using hr
      · exact absurd rfl h3
    · simp [h]
  exchangeCounters _ _ _ := rfl

/-- A change of one segment's slot and number, and of its EXCHANGES counter at most. -/
theorem State.withSeg_startsFrom (s : State) (sg : Seg) (x : SegState) (hfree : ¬ s.slotBusy sg)
    (hx : ∀ k, k ≠ .exchanges → x.counters.get k = (s.seg sg).counters.get k) : s.StartsFrom (s.withSeg sg x) where
  pending := rfl
  now := rfl
  timeBase := rfl
  subMicro := rfl
  clockRunning := rfl
  supply := rfl
  pinHeld := rfl
  resetCause := rfl
  freeCount := rfl
  alertLane := rfl
  rules := rfl
  agent := rfl
  alert := rfl
  store := rfl
  free := rfl
  lens := rfl
  ram := rfl
  watermark := rfl
  enabled _ := rfl
  lane _ := rfl
  counters _ := rfl
  snapshot _ := rfl
  settings _ h := ⟨rfl, h⟩
  offered _ _ h := Or.inl ⟨rfl, h⟩
  off _ _ := rfl
  sending _ _ _ _ := rfl
  awake _ h := h
  rx _ := Or.inl rfl
  trunkRx := rfl
  busy r hb := by
    have h : r ≠ sg := fun e => hfree (e ▸ hb)
    exact ⟨by simp [h], rfl⟩
  exchangeCounters r k hk := by
    by_cases h : r = sg
    · subst h; simpa using hx k hk
    · simp [h]

theorem State.withSlot_startsFrom (s : State) (sg : Seg) (x : Slot) (h : ¬ s.slotBusy sg) : s.StartsFrom (s.withSlot sg x) :=
  s.withSeg_startsFrom sg _ h fun _ _ => rfl

theorem State.addRef_startsFrom (s : State) (b : Nat) : s.StartsFrom (s.withPool (s.pool.addRef b)) where
  pending := rfl
  now := rfl
  timeBase := rfl
  subMicro := rfl
  clockRunning := rfl
  supply := rfl
  pinHeld := rfl
  resetCause := rfl
  freeCount := rfl
  alertLane := rfl
  rules := rfl
  agent := rfl
  alert := rfl
  store := rfl
  free := Pool.addRef_free _ _
  lens := Pool.addRef_lens _ _
  ram := Pool.addRef_ram _ _
  watermark := Pool.addRef_watermark _ _
  enabled _ := rfl
  lane _ := rfl
  counters _ := rfl
  snapshot _ := rfl
  settings _ h := ⟨rfl, h⟩
  offered _ _ h := Or.inl ⟨rfl, h⟩
  off _ _ := rfl
  sending _ _ _ _ := rfl
  awake _ h := h
  rx _ := Or.inl rfl
  trunkRx := rfl
  busy _ _ := ⟨rfl, rfl⟩
  exchangeCounters _ _ _ := rfl

theorem State.not_busy_of_role {s : State} {sg : Seg} (h : (s.segSettings sg).role = .uplink) : ¬ s.slotBusy sg := by
  intro hb
  have := hb.1
  rw [h] at this
  exact absurd this (by decide)

theorem State.not_busy_of_free {s : State} {sg : Seg} (h : (s.seg sg).slot = .free) : ¬ s.slotBusy sg := fun hb => hb.2.1 h

theorem State.not_busy_of_resend {s : State} {sg : Seg} {r : ExchangeRecord} (h : (s.seg sg).slot = .resend r) :
    ¬ s.slotBusy sg := fun hb => hb.2.2 r h

/-- A slot that lets a transmission start is not busy. -/
theorem State.not_busy_of_mayStart {s : State} {sg : Seg} (h : (s.seg sg).slot.mayStart = true) : ¬ s.slotBusy sg := by
  unfold Slot.mayStart at h
  split at h
  · rename_i hs; exact State.not_busy_of_free hs
  · rename_i r hs; exact State.not_busy_of_resend hs
  all_goals simp at h

theorem State.openExchange_startsFrom (s : State) (sg : Seg) (d : Descriptor) (x : ExchangeParams) (h : ¬ s.slotBusy sg) :
    s.StartsFrom (s.openExchange sg d x) := by
  have e : s.openExchange sg d x = s.withSeg sg
      { slot := .sendingExchange (s.openedRecord sg d x)
        lastNumber := nextExchangeNumber (s.seg sg).lastNumber
        counters := (s.seg sg).counters.bump .exchanges } := by
    unfold State.openExchange State.countExchange State.withSeg State.seg
    congr 1
    cases sg <;> simp [PerSeg.set, PerSeg.get]
  rw [e]
  refine s.withSeg_startsFrom sg _ h ?_
  intro k hk
  cases k <;> first | exact absurd rfl hk | rfl

theorem State.reportTake_startsFrom (s : State) (p : Port) (d : Descriptor)
    (h : ∀ sg, p = .seg sg → ¬ s.slotBusy sg) : s.StartsFrom (s.reportTake p d) := by
  unfold State.reportTake
  split
  · exact .refl s
  · split
    · exact .refl s
    · split
      · exact s.openExchange_startsFrom _ _ _ (h _ rfl)
      · exact s.withSlot_startsFrom _ _ (h _ rfl)
      · exact s.withSlot_startsFrom _ _ (h _ rfl)
      · exact s.withSlot_startsFrom _ _ (h _ rfl)

/-- The entry into SENDING, on a port that is IDLE or WAITING and whose receiver is IDLE if it is a segment's (R12, R15). -/
theorem State.startSending_startsFrom (s : State) (p : Port) (c : Current) (hoff : (s.port p).tx.state ≠ .off)
    (hsend : ∀ c n, (s.port p).tx.state ≠ .sending c n) (hrx : p ≠ .trunk → (s.port p).rx.state = .idle) :
    s.StartsFrom (s.startSending p c) := by
  refine s.withPort_startsFrom p _ hoff hsend rfl rfl rfl rfl (fun h => ⟨rfl, h⟩) (fun _ h => Or.inl ⟨rfl, h⟩) (by simp) (fun _ _ _ => rfl) ?_
  cases p with
  | trunk => exact Or.inl rfl
  | seg sg => exact Or.inr ⟨hrx (by simp), rfl, by simp⟩

theorem State.startCondition_rx {s : State} {p : Port} (h : s.startCondition p = true) (hp : p ≠ .trunk) :
    (s.port p).rx.state = .idle := by
  cases p with
  | trunk => exact absurd rfl hp
  | seg sg =>
    simp only [State.startCondition, Bool.and_eq_true, decide_eq_true_eq] at h
    exact h.1.1

theorem State.startCondition_slot {s : State} {sg : Seg} (h : s.startCondition (.seg sg) = true) : ¬ s.slotBusy sg := by
  simp only [State.startCondition, Bool.and_eq_true, Bool.or_eq_true, decide_eq_true_eq] at h
  rcases h.2 with h | h
  · exact State.not_busy_of_role h
  · exact State.not_busy_of_mayStart h

theorem State.begin_startsFrom (s : State) (p : Port) (c : Choice) (hoff : (s.port p).tx.state ≠ .off)
    (hsend : ∀ c n, (s.port p).tx.state ≠ .sending c n) (hc : s.startCondition p = true) : s.StartsFrom (s.begin p c) := by
  have hrx : p ≠ .trunk → (s.port p).rx.state = .idle := State.startCondition_rx hc
  have hslot : ∀ sg, p = .seg sg → ¬ s.slotBusy sg := by
    intro sg h; subst h; exact State.startCondition_slot hc
  cases c with
  | retry r =>
    unfold State.begin State.startRetry
    dsimp only
    split
    · rename_i sg b _
      exact ((s.addRef_startsFrom b).trans (State.withSlot_startsFrom _ sg
        (.sendingExchange { r with attempt := r.attempt + 1, retryPending := false }) (hslot sg rfl))).trans
        (State.startSending_startsFrom _ _ _ hoff hsend hrx)
    · exact .refl s
  | reply => exact s.startSending_startsFrom p _ hoff hsend hrx
  | alert => exact s.startSending_startsFrom p _ hoff hsend hrx
  | take d rest =>
    unfold State.begin
    dsimp only
    have hnot : (s.port p).tx.state ≠ .off := hoff
    refine State.StartsFrom.trans (State.StartsFrom.trans (b := s.withQueue p rest) ?_ ?_) (State.reportTake_startsFrom _ _ _ ?_)
    · exact s.withPort_startsFrom p _ hoff hsend rfl rfl rfl rfl (fun h => ⟨rfl, h⟩) (fun _ h => Or.inl ⟨rfl, h⟩) hnot (fun _ _ _ => rfl) (Or.inl rfl)
    · refine State.startSending_startsFrom _ _ _ ?_ ?_ ?_
      · simpa using hoff
      · intro c n; simpa using hsend c n
      · intro hp; simpa using hrx hp
    · intro sg h
      subst h
      have := hslot sg rfl
      unfold State.slotBusy State.segSettings at this ⊢
      simpa [State.startSending] using this

theorem State.startPort_startsFrom (s : State) (p : Port) : s.StartsFrom (s.startPort p) := by
  have go : (s.port p).tx.state ≠ .off → (∀ c n, (s.port p).tx.state ≠ .sending c n) → s.StartsFrom
      (match s.choice p with
        | none => s
        | some c => if s.startCondition p then s.begin p c else s.withTx p { (s.port p).tx with state := .waiting }) := by
    intro hoff hsend
    split
    · exact .refl s
    · split
      · rename_i hc
        exact s.begin_startsFrom _ _ hoff hsend hc
      · exact s.withPort_startsFrom p _ hoff hsend rfl rfl rfl rfl (fun h => ⟨rfl, h⟩) (fun _ h => Or.inl ⟨rfl, h⟩) (by simp) (fun _ _ _ => rfl) (Or.inl rfl)
  unfold State.startPort
  split
  · exact .refl s
  · exact .refl s
  · rename_i h
    exact go (by rw [h]; simp) (by intro c n; rw [h]; simp)
  · rename_i h
    exact go (by rw [h]; simp) (by intro c n; rw [h]; simp)

/-- A slot set beside other changes of its segment, where the slot was not busy before. -/
theorem State.StartsFrom.withSlot {s u : State} (h : s.StartsFrom u) (sg : Seg) (x : Slot) (hb : ¬ s.slotBusy sg) :
    s.StartsFrom (u.withSlot sg x) where
  pending := h.pending
  now := h.now
  timeBase := h.timeBase
  subMicro := h.subMicro
  clockRunning := h.clockRunning
  supply := h.supply
  pinHeld := h.pinHeld
  resetCause := h.resetCause
  freeCount := h.freeCount
  alertLane := h.alertLane
  rules := h.rules
  agent := h.agent
  alert := h.alert
  store := h.store
  free := h.free
  lens := h.lens
  ram := h.ram
  watermark := h.watermark
  enabled := h.enabled
  lane := h.lane
  counters := h.counters
  snapshot := h.snapshot
  settings := h.settings
  offered := h.offered
  off := h.off
  sending := h.sending
  awake := h.awake
  rx := h.rx
  trunkRx := h.trunkRx
  busy r hr := by
    have hne : r ≠ sg := fun e => hb (e ▸ hr)
    exact ⟨by simp [hne, (h.busy r hr).1], (h.busy r hr).2⟩
  exchangeCounters r k hk := by
    by_cases hne : r = sg
    · subst hne; simpa using h.exchangeCounters r k hk
    · simpa [hne] using h.exchangeCounters r k hk

theorem State.applyPending_startsFrom (s : State) (p : Port) : s.StartsFrom (s.applyPending p) := by
  unfold State.applyPending
  split
  · exact .refl s
  · rename_i st hst
    split
    · rename_i h
      simp only [State.atIdlePoint, Bool.and_eq_true, decide_eq_true_eq] at h
      have htx : (s.port p).tx.state = .idle := h.1.1.1.2
      have hslot : ∀ sg, p = .seg sg → ¬ s.slotBusy sg := by
        intro sg hp
        subst hp
        have h2 := h.1.2
        simp only [Bool.or_eq_true, decide_eq_true_eq] at h2
        rcases h2 with h2 | h2
        · exact State.not_busy_of_role h2
        · exact State.not_busy_of_free h2
      have hp : s.StartsFrom (s.withPort p { s.port p with settings := st, pendingSettings := none }) := by
        refine s.withPort_startsFrom p _ (by rw [htx]; simp) (by intro c n; rw [htx]; simp) rfl rfl rfl rfl ?_ ?_ ?_ ?_ (Or.inl rfl)
        · intro hn; rw [hst] at hn; exact absurd hn (by simp)
        · intro st' hs
          rw [hst] at hs
          exact Or.inr ⟨by simpa using hs, rfl⟩
        · show (s.port p).tx.state ≠ .off
          rw [htx]; simp
        · intro sg e hb; exact absurd hb (hslot sg e)
      unfold State.activateSettings State.slotForRole
      cases p with
      | trunk => exact hp
      | seg sg => exact hp.withSlot sg _ (hslot sg rfl)
    · exact .refl s

theorem State.foldl_startsFrom {α : Type} {f : State → α → State} (hf : ∀ s a, State.StartsFrom s (f s a)) (l : List α)
    (s : State) : s.StartsFrom (l.foldl f s) := by
  induction l generalizing s with
  | nil => exact .refl s
  | cons a l ih => exact (hf s a).trans (ih _)

/-- Everything that what follows within an event can do. -/
theorem State.followUp_startsFrom (s : State) : s.StartsFrom s.followUp :=
  (State.foldl_startsFrom State.startPort_startsFrom Port.list s).trans
    (State.foldl_startsFrom State.applyPending_startsFrom Port.list _)

end Sys2Proof.Machine
end

