-- ==== Sys2Proof/Laws/Step.lean ====
section
/-! SUPPORT. What a step can do, once: a command carried out on the state with another queue and free-value counter, or a tick,
which moves the time and nothing else. An invariant of every step follows from these two cases. -/

namespace Sys2Proof.Machine

/-- A tick moves the model's time, the time base and its part of a microsecond, and nothing else (R22, R194). -/
theorem State.tick_moves_time (s : State) : ∃ n m b, s.tick = { s with now := n, subMicro := m, timeBase := b } := by
  unfold State.tick State.countTime
  split
  · split
    · exact ⟨_, _, _, rfl⟩
    · split
      · exact ⟨_, _, _, rfl⟩
      · exact ⟨_, _, _, rfl⟩
  · exact ⟨_, _, _, rfl⟩

/-- An event that the part takes by itself is one of those that are due, and taking it leaves all but the free-value counter. -/
theorem State.nextEvent_eq {s s' : State} {c : Instr} (h : s.nextEvent = some (c, s')) :
    c ∈ s.dueEvents ∧ ∃ n, s' = { s with freeCount := n } := by
  unfold State.nextEvent at h
  split at h
  · cases h
  · rename_i d e
    cases h
    exact ⟨by simp [e], _, rfl⟩
  · rename_i d others _ e
    cases h
    refine ⟨?_, _, rfl⟩
    rw [e]
    have : Config.pick s.freeCount % (d :: others).length < (d :: others).length := Nat.mod_lt _ (Nat.succ_pos _)
    rw [State.pickEvent, List.getD_eq_getElem _ _ this]
    exact List.getElem_mem this

/-- A step that goes on carries out one command, on the state with another queue and free-value counter, or lets time pass. -/
theorem step_next {s t : State} (h : step s = .next t) :
    (∃ c l n, exec c { s with pending := l, freeCount := n } = .next t) ∨ t = s.tick := by
  unfold step at h
  split at h
  · exact .inl ⟨_, _, s.freeCount, h⟩
  · split at h
    · rename_i c s' e
      obtain ⟨_, n, rfl⟩ := State.nextEvent_eq e
      exact .inl ⟨c, s.pending, n, h⟩
    · injection h with h
      exact .inr h.symm

end Sys2Proof.Machine
end

