-- ==== Sys2Proof/Tests/Slice0.lean ====
section
/-! SUPPORT. The model's own tests: the check of well-formedness, numbers and small effects that the spec writes out, and for each
statement with hypotheses a concrete state and operands that meet them. -/

namespace Sys2Proof.Tests

set_option Elab.async false

open Sys2Proof Sys2Proof.Machine

/-! ### Small states -/

/-- A port that is up with these settings. -/
def up (st : Settings) : PortState :=
  { PortState.stopped ⟨true, st⟩ with rx := Receiver.fresh .idle, tx := Transmitter.fresh .idle }

/-- Segment settings in a role, with management permitted. -/
def segSettings (r : Role) : Settings := { factorySegment.settings with role := r, mgmt := true }

/-- A part that is up: segment 1 in FIELD role, segment 2 in UPLINK role, segments 3 and 4 disabled. -/
def partUp : State :=
  { State.reset with
    supply := .ok
    ports := ⟨up factoryTrunk.settings, ⟨up (segSettings .field), up (segSettings .uplink), PortState.stopped factorySegment,
      PortState.stopped factorySegment⟩⟩
    segs := ⟨SegState.wiped, { SegState.wiped with slot := .outOfUse }, SegState.wiped, SegState.wiped⟩ }

/-- The pool with buffer 63 taken, holding these bytes with count 1. -/
def poolWith (bytes : List Byte) : Pool :=
  ⟨List.range 63, (Pool.blank.refs).set 63 1, (Pool.blank.lens).set 63 bytes.length, Memory.ofBytes (256 * 63) bytes, 63⟩

/-- `s` with a frame in buffer 63 whose gap timer has run since instant 0 on port `p`. -/
def withFrame (s : State) (p : Port) (bytes : List Byte) (e : ErrorSet) : State :=
  ({ s with pool := poolWith bytes }).withRx p ⟨.assembling ⟨63, bytes.length, e, 0#32⟩, none, false, some 0⟩

/-- The agent's entry for the request of `withRequest`. -/
def theEntry : InputEntry := ⟨63, .trunk, .check16⟩

/-- `s` with a request with this code and body, tag 7, at the head of the agent's input queue. -/
def withRequest (s : State) (code : Byte) (body : List Byte) : State :=
  { s with
    pool := poolWith (withCheck ([250#8, code, 7#8] ++ body))
    agent := { s.agent with input := [theEntry] } }

/-- The state after a command, or the state before where it stops. -/
def after (c : Instr) (s : State) : State :=
  match exec c s with
  | .next t => t
  | .fault _ | .refused _ => s

/-- A rule that takes every frame from every port. -/
def anyRule (a : Action) : Rule := ⟨PerPort.all true, 1, 256, [], a⟩

/-- A rule table with that rule at index 127 alone. -/
def tableWith (a : Action) : List (Option Entry) := emptyTable.set 127 (some ⟨anyRule a, 4294967295#32⟩)

/-- An exchange on its first attempt, with its request in buffer 63. -/
def anExchange : ExchangeRecord := ⟨1#16, .trunk, 0x11#8, some 63, 127, .normal, 0, true, 1, 0#32, some 200, .none, false⟩

/-- `s` with segment 1's slot replaced. -/
def withSlot (s : State) (x : Slot) : State := s.withSeg .seg1 { s.seg .seg1 with slot := x }

/-- A bank that a commit of the factory profile with this generation has written. -/
def writtenBank (g : BitVec 32) : Bank := ⟨1#32, (CommitJob.mk .a g factoryProfile).bodyAfter [], true⟩

/-- The deferred reply record of a COMMIT taken on the trunk. -/
def owed : Deferred := ⟨.trunk, 0x50#8, 7#8, 250#8, none⟩

/-- An alert, number 1. -/
def anAlert : Alert := partUp.alertFrom (CauseSet.empty.add .restarted)

/-- A descriptor of the buffer 63. -/
def aDescriptor (k : DescriptorKind) (pr : Priority) : Descriptor := ⟨63, k, pr, 0#32⟩

/-- What an EXCHANGE entry's descriptor carries. -/
def params : ExchangeParams := ⟨.trunk, 0, true, 127⟩

/-- The hypotheses of `State.Takes`, all decidable. -/
theorem takes_of {s : State} {i : Instr} {e : InputEntry} {rest : List InputEntry}
    (h : s.clockRunning = true ∧ s.agent.mode = .idle ∧ s.agent.input = e :: rest ∧ (s.requestOf e).row = i ∧
      s.agentCheckFails e = false) : s.Takes i e rest :=
  ⟨h.1, h.2.1, h.2.2.1, h.2.2.2.1, h.2.2.2.2⟩

/-! ### Well-formed commands -/

theorem test_bad_cells_refused :
    (Instr.commitCompletion [(3, 0#8)]).wellFormed = false ∧ (Instr.commitCompletion [(3168, 0#8)]).wellFormed = false ∧
      (Instr.commitCompletion [(4, 0#8), (3168, 1#8)]).wellFormed = false := by decide

theorem test_body_cells_accepted : (Instr.commitCompletion [(4, 0#8), (3167, 0#8)]).wellFormed = true := by decide

theorem test_bad_cell_faults : exec (.commitCompletion [(3168, 0#8)]) partUp = .fault .noSuchCell := rfl

/-! ### Numbers and records of the spec -/

/-- The example of R29: the nine characters "1" to "9" have the check 0x29B1. -/
theorem test_check_example :
    withCheck [0x31#8, 0x32#8, 0x33#8, 0x34#8, 0x35#8, 0x36#8, 0x37#8, 0x38#8, 0x39#8] =
      [0x31#8, 0x32#8, 0x33#8, 0x34#8, 0x35#8, 0x36#8, 0x37#8, 0x38#8, 0x39#8, 0x29#8, 0xB1#8] := by decide +kernel

theorem test_generation_wraps : nextGeneration 4294967295#32 = 1#32 ∧ nextGeneration 3#32 = 4#32 := by decide

theorem test_settings_bounds :
    (segSettings .field).inRange (.seg .seg1) = true ∧ factoryTrunk.settings.inRange .trunk = true ∧
      ({ segSettings .field with gapHalf := 3 }).inRange (.seg .seg1) = false ∧
      ({ segSettings .field with gapHalf := 81 }).inRange (.seg .seg1) = false ∧
      ({ segSettings .field with rate := 9 }).inRange (.seg .seg1) = false ∧
      ({ segSettings .field with timing := some ⟨2001, 200, 50, 20⟩ }).inRange (.seg .seg1) = false ∧
      (segSettings .field).inRange .trunk = false := by decide

theorem test_factory_profile_in_range : factoryProfile.inRange = true := by decide +kernel

theorem test_counter_saturates : Count.bump 4294967295#32 = 4294967295#32 ∧ Count.bump 0#32 = 1#32 := by decide

/-! ### Small effects -/

/-- A management row, its code, the body of a request, and the outcome that a part that is up answers it with. -/
structure RowCase where
  row : Instr
  code : Byte
  body : List Byte
  outcome : CommandOutcome

/-- The rows that read. -/
def readingRequests : List RowCase :=
  [⟨.identify, 0x01#8, [], .done⟩, ⟨.unknownCommand, 0x70#8, [], .badCmd⟩, ⟨.readStatus, 0x02#8, [], .done⟩,
    ⟨.readPort, 0x10#8, [4#8], .done⟩, ⟨.readRule, 0x20#8, [127#8], .noEntry⟩, ⟨.readHits, 0x23#8, [68#8, 60#8], .done⟩,
    ⟨.readCounters, 0x30#8, [0#8], .done⟩, ⟨.readExchange, 0x32#8, [4#8], .done⟩, ⟨.takeSnapshot, 0x33#8, [0#8], .noEntry⟩,
    ⟨.readStore, 0x52#8, [], .done⟩]

/-- The rows that change something, but for COMMIT, whose reply is deferred. -/
def changingRequests : List RowCase :=
  [⟨.setPort, 0x11#8, 4#8 :: (segSettings .uplink).encode, .done⟩, ⟨.enablePort, 0x12#8, [4#8], .done⟩,
    ⟨.disablePort, 0x13#8, [1#8], .done⟩, ⟨.writeRule, 0x21#8, 127#8 :: (anyRule .drop).encode, .done⟩,
    ⟨.deleteRule, 0x22#8, [127#8], .noEntry⟩, ⟨.clearCountersPort, 0x31#8, [0#8, 4#8], .done⟩,
    ⟨.clearCountersAll, 0x31#8, [1#8], .done⟩, ⟨.clearCountersHits, 0x31#8, [2#8], .done⟩,
    ⟨.ackAlert, 0x40#8, [1#8], .noEntry⟩, ⟨.setAgent, 0x41#8, [254#8, 0x1F#8, 0#8, 100#8], .done⟩,
    ⟨.load, 0x51#8, [], .noEntry⟩, ⟨.restartCold, 0x5F#8, [0#8], .done⟩, ⟨.restartWarm, 0x5F#8, [1#8], .done⟩]

/-- One request for each management row but COMMIT. -/
def requests : List RowCase := readingRequests ++ changingRequests

/-- Each of them is taken as its row, and the trunk's lane then holds the reply with its code, tag and outcome. -/
theorem test_requests_are_taken_and_answered :
    ∀ x ∈ requests,
      ((withRequest partUp x.code x.body).requestOf theEntry).row = x.row ∧
        ((after x.row (withRequest partUp x.code x.body)).port .trunk).lane.map (·.frame.take 4) =
          some [250#8, x.code, 7#8, x.outcome.code] := by decide +kernel

theorem test_commit_starts_a_commit :
    (after .commit (withRequest partUp 0x50#8 [])).store.bankA.eraseCount = 1#32 ∧
      (after .commit (withRequest partUp 0x50#8 [])).agent.deferred = some owed := by decide +kernel

/-- A character is stored in buffer 0, the head of the free list. -/
theorem test_character_is_stored :
    (after (.characterReceived .trunk 0x41#8 false true) (after (.characterArrival .trunk) partUp)).pool.ram = [(0, 0x41#8)] := by
  decide +kernel

theorem test_forwarded_frame_starts_to_be_sent :
    ((after (.gapTimerExpiry .trunk) (withFrame { partUp with rules := tableWith (.forward (PerPort.all true) .normal) } .trunk
        (withCheck [1#8]) ErrorSet.empty)).port (.seg .seg2)).tx.state =
      .sending (.descriptor (aDescriptor .plain .normal)) 0 := by decide +kernel

theorem test_request_opens_an_exchange :
    ((after (.gapTimerExpiry .trunk) (withFrame { partUp with rules := tableWith (.exchange .seg1 .normal 3 true) } .trunk
        (withCheck [0x11#8]) ErrorSet.empty)).seg .seg1).slot =
      .sendingExchange { anExchange with retries := 3, remaining := none } := by decide +kernel

theorem test_last_timeout_loses_the_exchange :
    ((after (.responseTimerExpiry .seg1)
        ({ withSlot partUp (.awaiting anExchange 0) with pool := poolWith [0x11#8] })).port .trunk).tx.state =
      .sending .alert 0 := by decide +kernel

theorem test_stopped_clock : exec (.sendEnd .trunk) { partUp with clockRunning := false } = .next { partUp with clockRunning := false } := by
  rfl

/-! ### Hypotheses that are met: queue, timers, resets -/

theorem test_meets_StepRunsFrontCommand : ({ partUp with pending := [.clkinStops] }).pending = .clkinStops :: [] := rfl

theorem test_meets_EmptyQueueTakesDueEventOrTicks :
    partUp.dueEvents = [] ∧ (withRequest partUp 0x01#8 []).dueEvents = [.identify] ∧
      (withSlot (withRequest partUp 0x01#8 []) (.settling 0)).dueEvents = [.settleTimerExpiry .seg1, .identify] := by
  decide +kernel

theorem test_meets_TimedEventsAreDueAtTheirTimes :
    (withSlot partUp (.awaiting anExchange 0)).dueEvents = [.responseTimerExpiry .seg1] ∧
      (withSlot partUp (.awaiting anExchange 1)).dueEvents = [] ∧
      ({ withFrame partUp .trunk [1#8] ErrorSet.empty with now := 659999 }).dueEvents = [] ∧
      ({ withFrame partUp .trunk [1#8] ErrorSet.empty with now := 660000 }).dueEvents = [.gapTimerExpiry .trunk] ∧
      (partUp.withGuard (.seg .seg1) (some 0)).dueEvents = [] ∧
      ({ partUp.withGuard (.seg .seg1) (some 0) with now := 28799 }).dueEvents = [] ∧
      ({ partUp.withGuard (.seg .seg1) (some 0) with now := 28800 }).dueEvents = [.turnaroundGuardExpiry .seg1 false] := by
  decide +kernel

/-- The time base counts at the 288th fine unit of a microsecond; a reset that is held stops it, and so does CLKIN. -/
theorem test_time_base_counts_microseconds :
    ({ partUp with subMicro := 286 }).tick.timeBase = 0#32 ∧ ({ partUp with subMicro := 287 }).tick.timeBase = 1#32 ∧
      ({ partUp with subMicro := 287 }).tick.subMicro = 0 ∧ ({ State.reset with subMicro := 287 }).tick.timeBase = 0#32 ∧
      ({ partUp with subMicro := 287, clockRunning := false }).tick.timeBase = 0#32 := by decide +kernel

theorem test_meets_ColdKindsWipeThePart :
    partUp.supply = .ok ∧ State.reset.supply = .heldPower ∧ (after .supplyReset partUp).supply = .heldSupply ∧
      (after .vddFallsBelow1V2 partUp).supply = .lost := by decide +kernel

/-- A part that RSTN holds on after the monitor's release takes a SUPPLY reset (log 22). -/
theorem test_supply_falls_while_the_pin_holds :
    (after .supplyReset (after .supplyRelease (after .pinReset State.reset))).supply = .heldSupply ∧
      (after .supplyReset (after .supplyRelease (after .pinReset State.reset))).resetCause = .supply := by decide +kernel

theorem test_meets_ReleaseBeginsTheStartupLoad :
    State.reset.supply = .heldPower ∧ State.reset.pinHeld = false ∧ (after .pinReset partUp).pinHeld = true ∧
      (after .pinReset partUp).supply = .ok ∧ (after .pinReset State.reset).pinHeld = true ∧
      (after .pinReset State.reset).supply = .heldPower ∧ (after .supplyReset partUp).supply = .heldSupply ∧
      (after .vddFallsBelow1V2 partUp).supply = .lost := by decide +kernel

theorem writtenBank_profile (g : BitVec 32) : (writtenBank g).storedProfile? = some factoryProfile := by
  have size : (be32 g.toNat).length = 4 := rfl
  have image : (writtenBank g).imageBytes = factoryProfile.encode := by
    have length : factoryProfile.encode.length = 3156 := by decide +kernel
    have body : (writtenBank g).body =
        Memory.ofBytes 4 ((be32 g.toNat ++ factoryProfile.encode) ++
          be32 (integrityOf (be32 g.toNat ++ factoryProfile.encode)).toNat) := by
      simp [writtenBank, CommitJob.bodyAfter, CommitJob.bytes, asKept]
    rw [Bank.imageBytes, body, show (8 : Nat) = 4 + 4 from rfl, Memory.readBytes_ofBytes 4 4 3156 _ (by simp only [List.length_append, size, length]; omega),
      List.append_assoc, List.drop_left' size, List.take_left' length]
  rw [Bank.storedProfile?, image]
  decide +kernel

theorem test_meets_StartupLoadAppliesTheProfile :
    (after .supplyRelease State.reset).store.state = .startup none ∧
      (({ State.reset with store := ⟨writtenBank 3#32, Bank.manufactured, .startup (some .a)⟩ }).store.bank .a).storedProfile? =
        some factoryProfile := ⟨by decide +kernel, writtenBank_profile 3#32⟩

/-! ### Characters and the gap -/

theorem lineOpen_of {s : State} {p : Port}
    (h : s.clockRunning = true ∧ (s.port p).rx.held = none ∧ (s.port p).rx.lineLow = false) : s.LineOpen p :=
  ⟨h.1, h.2.1, h.2.2⟩

theorem test_meets_arrivals :
    partUp.LineOpen .trunk ∧ (partUp.port .trunk).rx.state = .idle ∧ partUp.pool.free = 0 :: (List.range 63).map (· + 1) ∧
      ({ partUp with pool := { partUp.pool with free := [] } }).pool.free = [] ∧
      (partUp.port (.seg .seg4)).rx.state = .off ∧
      ((withFrame partUp .trunk [1#8] ErrorSet.empty).port .trunk).rx.state.takesCharacters = true :=
  ⟨lineOpen_of (by decide), by decide +kernel, by decide +kernel, by decide +kernel, by decide +kernel, by decide +kernel⟩

/-- A frame of 255 bytes takes one more character; one of 256 takes none. -/
def longFrame (n : Nat) : State := withFrame partUp .trunk (List.replicate n 1#8) ErrorSet.empty

theorem test_meets_CharacterIsStoredOrThrownAway :
    (longFrame 255).LineOpen .trunk ∧ ((longFrame 255).port .trunk).rx.state = .assembling ⟨63, 255, ErrorSet.empty, 0#32⟩ ∧
      Memory.wf (longFrame 0).pool.ram ∧ (longFrame 256).LineOpen .trunk ∧
      ((longFrame 256).port .trunk).rx.state = .assembling ⟨63, 256, ErrorSet.empty, 0#32⟩ ∧
      ((after (.characterReceived .trunk 1#8 true true) (longFrame 256)).port .trunk).rx.state =
        .discarding (.overlength ⟨63, 256, { ErrorSet.empty with overlength := true }, 26#32⟩) :=
  ⟨lineOpen_of (by decide +kernel), by decide +kernel, by decide +kernel, lineOpen_of (by decide +kernel), by decide +kernel,
    by decide +kernel⟩

/-- A part whose trunk holds a zero character for the break test, over a frame of `n` bytes. -/
def heldZero (n : Nat) : State := after (.characterReceived .trunk 0#8 false false) (longFrame n)

theorem test_meets_held_characters :
    ((heldZero 255).port .trunk).rx.held = some ⟨false, 0⟩ ∧ ((heldZero 256).port .trunk).rx.held = some ⟨false, 0⟩ ∧
      ((after (.breakDeclared .trunk) (heldZero 255)).port .trunk).rx.lineLow = true ∧
      ((after (.breakDeclared .trunk) (heldZero 256)).port .trunk).rx.state = .discarding .broken ∧
      ((after (.breakDeclared .trunk) (heldZero 256)).port .trunk).counters.overlength = 1#32 ∧
      ((after (.breakDeclared .trunk) (heldZero 255)).port .trunk).counters.overlength = 0#32 ∧
      (heldZero 255).pool.lens.length = 64 := by decide +kernel

/-- Where no character is received: an IDLE and an OFF receiver, a MUTED one, one that holds a character, and one on a line held
low; and a receiver with nothing held whose gap timer does not run. -/
theorem test_meets_characters_not_received :
    partUp.clockRunning = true ∧ (partUp.port .trunk).rx.state = .idle ∧ (partUp.port (.seg .seg4)).rx.state = .off ∧
      ((partUp.withRx (.seg .seg1) (Receiver.fresh .muted)).port (.seg .seg1)).rx.state = .muted ∧
      ((heldZero 1).port .trunk).rx.held ≠ none ∧ ((after (.breakDeclared .trunk) (heldZero 1)).port .trunk).rx.lineLow = true ∧
      ((after (.breakDeclared .trunk) (heldZero 1)).port .trunk).rx.held = none ∧
      ((after (.breakDeclared .trunk) (heldZero 1)).port .trunk).rx.gapStart = none := by decide +kernel

/-- Segment 1 with a zero character held over a frame of `n` bytes in buffer 63, its slot RECEIVING the exchange whose request is
in buffer 62. -/
def heldAnswer (n : Nat) : State :=
  withSlot (after (.characterReceived (.seg .seg1) 0#8 false false)
    (withFrame partUp (.seg .seg1) (List.replicate n 1#8) ErrorSet.empty)) (.receiving { anExchange with buffer := some 62 })

/-- A break in an answer: with no retries left the exchange fails, with its BADREPLY counted. -/
theorem test_meets_break_in_an_answer :
    ((heldAnswer 255).port (.seg .seg1)).rx.held = some ⟨false, 0⟩ ∧
      ((heldAnswer 255).port (.seg .seg1)).rx.state = .assembling ⟨63, 255, ErrorSet.empty, 0#32⟩ ∧
      ((heldAnswer 256).port (.seg .seg1)).rx.state = .assembling ⟨63, 256, ErrorSet.empty, 0#32⟩ ∧
      (heldAnswer 256).pool.lens.length = 64 ∧
      ((after (.breakDeclared (.seg .seg1)) (heldAnswer 256)).seg .seg1).counters.badreplies = 1#32 ∧
      ((after (.breakDeclared (.seg .seg1)) (heldAnswer 255)).seg .seg1).counters.failed = 1#32 := by decide +kernel

theorem test_meets_GapTimerEndsADiscard :
    ((after (.lineReturnsHighAfterBreak .trunk) (after (.breakDeclared .trunk) (heldZero 1))).port .trunk).rx =
        ⟨.discarding .broken, none, false, some 0⟩ ∧
      ((after (.characterArrival .trunk) { partUp with pool := { partUp.pool with free := [] } }).port .trunk).rx =
        ⟨.discarding .refused, none, false, some 0⟩ ∧
      ((withSlot (partUp.withRx (.seg .seg1) ⟨.discarding .refused, none, false, some 0⟩)
        (.receiving anExchange)).seg .seg1).slot = .receiving anExchange ∧ anExchange.buffer = some 63 := by decide +kernel

/-! ### Completed frames and exchanges -/

theorem completing_of {s : State} {p : Port} {f : Assembly}
    (h : s.clockRunning = true ∧ (s.port p).rx.gapStart.isSome = true ∧ (s.port p).rx.state = .assembling f ∧
      s.pool.lens.length = Config.poolBuffers ∧ f.buffer < Config.poolBuffers) : s.Completing p f :=
  ⟨h.1, Option.isSome_iff_ne_none.mp h.2.1, .inl h.2.2.1, h.2.2.2.1, h.2.2.2.2⟩

/-- A clean frame on the trunk with a given rule table. -/
def trunkFrame (rules : List (Option Entry)) (bytes : List Byte) : State :=
  withFrame { partUp with rules := rules } .trunk (withCheck bytes) ErrorSet.empty

/-- The frame in assembly of `trunkFrame` and `segFrame` for `n` bytes before the check. -/
def theFrame (n : Nat) : Assembly := ⟨63, n + 2, ErrorSet.empty, 0#32⟩

/-- The bytes of buffer 63 under a frame of one byte and its check. -/
def checkedBytes (b : Byte) : List Byte := (poolWith (withCheck [b])).bytes 63 3

theorem checkedBytes_pass : passesCheck (checkedBytes 1#8) = true := by decide +kernel

theorem checkedBytes_short : partUp.isManagement .trunk (checkedBytes 1#8) = false := by decide +kernel

theorem trunkFrame_classified (rules : List (Option Entry)) :
    (trunkFrame rules [1#8]).Classified .trunk (theFrame 1) :=
  ⟨completing_of ⟨rfl, rfl, rfl, rfl, by decide⟩, ⟨rfl, .inr checkedBytes_pass⟩,
    .inl ⟨fun _ h => Port.noConfusion h, checkedBytes_short⟩⟩

theorem test_meets_classified_frames :
    firstMatch (trunkFrame emptyTable [1#8]).rules .trunk ((trunkFrame emptyTable [1#8]).assembled (theFrame 1)) 0 = none ∧
      firstMatch (tableWith .drop) .trunk ((trunkFrame emptyTable [1#8]).assembled (theFrame 1)) 0 =
        some (127, ⟨anyRule .drop, 4294967295#32⟩) ∧
      firstMatch (tableWith (.forward (PerPort.all true) .urgent)) .trunk (checkedBytes 1#8) 0 =
        some (127, ⟨anyRule (.forward (PerPort.all true) .urgent), 4294967295#32⟩) ∧
      firstMatch (tableWith (.exchange .seg1 .normal 3 true)) .trunk (checkedBytes 1#8) 0 =
        some (127, ⟨anyRule (.exchange .seg1 .normal 3 true), 4294967295#32⟩) ∧
      (trunkFrame emptyTable [1#8]).pool.refCount 63 = 1 ∧ (trunkFrame emptyTable [1#8]).pool.refs.length = 64 ∧
      partUp.accepts (.seg .seg1) ∧ partUp.accepts (.seg .seg2) ∧ ¬partUp.accepts (.seg .seg3) := by decide +kernel

/-- A queue of `n` descriptors. -/
def queueOf (n : Nat) : TxQueue := ⟨[], List.replicate n (aDescriptor .plain .normal), 0⟩

theorem test_meets_ExchangeRequestIsQueuedOrRefused :
    (partUp.port .trunk).settings.role = .uplink ∧ (partUp.port (.seg .seg1)).enabled = true ∧
      (partUp.port (.seg .seg1)).settings.role = .field ∧
      (partUp.withQueue (.seg .seg1) (queueOf 19)).accepts (.seg .seg1) ∧
      ¬(partUp.withQueue (.seg .seg1) (queueOf 20)).accepts (.seg .seg1) ∧
      (partUp.port (.seg .seg2)).settings.role = .uplink := by decide +kernel

/-- A management frame on the trunk, with `n` entries in the agent's input queue. -/
def managementFrame (n : Nat) : State :=
  { trunkFrame emptyTable [250#8, 1#8, 7#8] with agent := { Agent.wiped with input := List.replicate n theEntry } }

theorem test_meets_ManagementFrameJoinsTheInputQueue :
    (managementFrame 3).Completing .trunk (theFrame 3) ∧ (managementFrame 3).Clean .trunk (theFrame 3) ∧
      ((managementFrame 3).assembled (theFrame 3)).head? = some (managementFrame 3).agent.settings.address ∧
      (managementFrame 3).agent.input.length = 3 ∧ (managementFrame 4).agent.input.length = 4 :=
  ⟨completing_of ⟨rfl, rfl, rfl, rfl, by decide⟩, ⟨rfl, .inr (by decide +kernel)⟩, by decide +kernel, rfl, rfl⟩

/-- A management frame on segment 2, an UPLINK segment with the management permit, with `n` entries in the input queue. -/
def managementFrameOnUplink (n : Nat) : State :=
  { withFrame partUp (.seg .seg2) (withCheck [250#8, 1#8, 7#8]) ErrorSet.empty with
    agent := { Agent.wiped with input := List.replicate n theEntry } }

theorem test_meets_ManagementFrame_on_an_uplink_segment :
    (managementFrameOnUplink 3).Completing (.seg .seg2) (theFrame 3) ∧
      (managementFrameOnUplink 3).Clean (.seg .seg2) (theFrame 3) ∧
      ((managementFrameOnUplink 3).port (.seg .seg2)).settings.role = .uplink ∧
      ((managementFrameOnUplink 3).port (.seg .seg2)).settings.mgmt = true ∧
      ((managementFrameOnUplink 3).seg .seg2).slot = .outOfUse ∧
      ((managementFrameOnUplink 3).assembled (theFrame 3)).head? = some (managementFrameOnUplink 3).agent.settings.address ∧
      (managementFrameOnUplink 3).agent.input.length = 3 ∧ (managementFrameOnUplink 4).agent.input.length = 4 :=
  ⟨completing_of ⟨rfl, rfl, rfl, rfl, by decide⟩, ⟨rfl, .inr (by decide +kernel)⟩, rfl, rfl, rfl, by decide +kernel, rfl, rfl⟩

/-- The agent takes the frame, and on the segment a full queue refuses it. -/
theorem test_management_frame_on_an_uplink_segment :
    (after (.gapTimerExpiry (.seg .seg2)) (managementFrameOnUplink 3)).agent.input.length = 4 ∧
      ((after (.gapTimerExpiry (.seg .seg2)) (managementFrameOnUplink 4)).port (.seg .seg2)).counters.agentovf = 1#32 := by
  decide +kernel

/-- A management frame on the trunk while the alert is STALLED after its third repeat, its timer stopped. -/
def managementFrameWhenStalled : State :=
  { managementFrame 3 with alert := ⟨.stalled, 1#8, CauseSet.empty, some anAlert, 3, none⟩ }

theorem test_meets_ManagementFrame_when_the_alert_is_stalled :
    managementFrameWhenStalled.Completing .trunk (theFrame 3) ∧ managementFrameWhenStalled.Clean .trunk (theFrame 3) ∧
      (managementFrameWhenStalled.assembled (theFrame 3)).head? = some managementFrameWhenStalled.agent.settings.address ∧
      managementFrameWhenStalled.alert.state = .stalled :=
  ⟨completing_of ⟨rfl, rfl, rfl, rfl, by decide⟩, ⟨rfl, .inr (by decide +kernel)⟩, by decide +kernel, rfl⟩

/-- The stalled alert is placed again, and sent, with repeat count 0 (R165). -/
theorem test_management_frame_revives_a_stalled_alert :
    (after (.gapTimerExpiry .trunk) managementFrameWhenStalled).alert.state = .outstanding ∧
      (after (.gapTimerExpiry .trunk) managementFrameWhenStalled).alert.repeatCount = 0 ∧
      (after (.gapTimerExpiry .trunk) managementFrameWhenStalled).agent.input.length = 4 := by decide +kernel

/-- A frame on segment 1 from station 0x11 whose slot is `x`; its request is in buffer 62. -/
def segFrame (x : Slot) (station : Byte) : State :=
  withSlot (withFrame partUp (.seg .seg1) (withCheck [station]) ErrorSet.empty) x

/-- The exchange whose request is in buffer 62. -/
def openExchange : ExchangeRecord := { anExchange with buffer := some 62 }

theorem segFrame_completes (x : Slot) (station : Byte) (h : station = 0x11#8 ∨ station = 0x12#8) :
    (segFrame x station).Completing (.seg .seg1) (theFrame 1) ∧ (segFrame x station).Clean (.seg .seg1) (theFrame 1) := by
  refine ⟨completing_of ⟨rfl, rfl, rfl, rfl, by decide⟩, rfl, .inr ?_⟩
  have check : passesCheck (checkedBytes station) = true := by rcases h with rfl | rfl <;> decide +kernel
  exact check

theorem test_meets_answers :
    ((segFrame (.receiving openExchange) 0x11#8).assembled (theFrame 1)).head? = some openExchange.station ∧
      ((segFrame (.receiving openExchange) 0x12#8).assembled (theFrame 1)).head? ≠ some openExchange.station ∧
      (segFrame (.receiving openExchange) 0x11#8).accepts openExchange.origin ∧
      (partUp.port (.seg .seg3)).isOff = true ∧ ((partUp.withQueue .trunk (queueOf 20)).port .trunk).queue.depth = 20 ∧
      ((segFrame (.lapsed openExchange 9) 0x11#8).seg .seg1).slot = .lapsed openExchange 9 := by decide +kernel

/-- An errored frame: a parity fault on the trunk. -/
theorem test_meets_ErroredFrameIsCountedAndReleased :
    (withFrame partUp .trunk [1#8] ⟨true, false, false, false, false⟩).Completing .trunk ⟨63, 1, ⟨true, false, false, false, false⟩, 0#32⟩ ∧
      (withFrame partUp .trunk [1#8] ErrorSet.empty).errorsOf .trunk ⟨63, 1, ErrorSet.empty, 0#32⟩ ≠ ErrorSet.empty :=
  ⟨completing_of ⟨rfl, rfl, rfl, rfl, by decide⟩, by decide +kernel⟩

theorem test_meets_ResponseExpiryFailsTheAttempt :
    anExchange.attempt = 1 + anExchange.retries ∧ ({ anExchange with retries := 1 }).attempt < 1 + 1 ∧
      anExchange.buffer = some 63 := by decide

theorem test_meets_NoticeIsBuiltOrLost :
    (partUp.noticeIf false ⟨.trunk, .seg1, 0x11#8, .timeout, 1, 0#16, 0⟩).pool.free.length = 64 ∧
      (partUp.noticeIf true ⟨.trunk, .seg1, 0x11#8, .timeout, 1, 0#16, 0⟩).pool.free.length = 63 ∧
      partUp.pool.free = 0 :: (List.range 63).map (· + 1) ∧ partUp.pool.refs.length = 64 ∧ partUp.accepts .trunk ∧
      ¬partUp.accepts (.seg .seg3) := by decide +kernel

theorem test_meets_SegmentTimersExpire :
    ((partUp.withGuard (.seg .seg1) (some 0)).port (.seg .seg1)).guardFrom = some 0 ∧
      ((partUp.withGuard (.seg .seg1) (some 0)).port (.seg .seg1)).rx.state = .idle ∧
      (((partUp.withGuard (.seg .seg1) (some 0)).withRx (.seg .seg1) (Receiver.fresh .muted)).port (.seg .seg1)).rx.state = .muted ∧
      ((withSlot partUp (.lapsed { anExchange with retries := 1, retryPending := true } 0)).seg .seg1).slot =
        .lapsed { anExchange with retries := 1, retryPending := true } 0 ∧
      ((withSlot partUp (.settling 0)).seg .seg1).slot = .settling 0 := by decide +kernel

/-- Work that waits for the guard of segment 1: a NORMAL descriptor. -/
def waitingForGuard : State :=
  (partUp.withQueue (.seg .seg1) ⟨[], [aDescriptor .plain .normal], 0⟩).withGuard (.seg .seg1) (some 0)

/-- At the guard's end the descriptor goes out; where a character's edge fell inside the guard, the character is taken first and
the transmitter waits. -/
theorem test_character_inside_the_guard_is_taken_first :
    ((after (.turnaroundGuardExpiry .seg1 false) waitingForGuard).port (.seg .seg1)).tx.state =
        .sending (.descriptor (aDescriptor .plain .normal)) 0 ∧
      ((after (.characterArrival (.seg .seg1)) (after (.turnaroundGuardExpiry .seg1 true) waitingForGuard)).port (.seg .seg1)).rx.state =
        .assembling ⟨0, 0, ErrorSet.empty, 0#32⟩ ∧
      ((after (.turnaroundGuardExpiry .seg1 true) waitingForGuard).port (.seg .seg1)).guardFrom = some 7500 := by decide +kernel

/-! ### Transmission -/

theorem test_meets_ArbiterFollowsItsOrder :
    ((partUp.withQueue .trunk ⟨[aDescriptor .plain .urgent], [aDescriptor .plain .normal], 3⟩).choice .trunk =
        some (.take (aDescriptor .plain .urgent) ⟨[], [aDescriptor .plain .normal], 4⟩)) ∧
      ((partUp.withQueue .trunk ⟨[aDescriptor .plain .urgent], [aDescriptor .plain .normal], 4⟩).choice .trunk =
        some (.take (aDescriptor .plain .normal) ⟨[aDescriptor .plain .urgent], [], 0⟩)) ∧
      (withSlot partUp (.resend anExchange)).choice (.seg .seg1) = some (.retry anExchange) ∧
      ({ partUp with alertLane := some [1#8] }).choice .trunk = some .alert ∧
      (partUp.withLane .trunk (some ⟨[1#8], 0, none⟩)).choice .trunk = some .reply := by decide +kernel

theorem test_meets_TransmissionStartsWhenItMay :
    partUp.startCondition (.seg .seg1) = true ∧ (partUp.withGuard (.seg .seg1) (some 0)).startCondition (.seg .seg1) = false ∧
      (partUp.port .trunk).tx.state = .idle ∧
      ((partUp.withQueue (.seg .seg1) ⟨[], [aDescriptor (.exchange params) .normal], 0⟩).choice (.seg .seg1)) =
        some (.take (aDescriptor (.exchange params) .normal) TxQueue.empty) := by decide +kernel

theorem test_meets_PendingRecordBecomesActiveAtTheIdlePoint :
    (partUp.withPendingSettings (.seg .seg1) (some (segSettings .uplink))).applyPending (.seg .seg1) ≠
        partUp.withPendingSettings (.seg .seg1) (some (segSettings .uplink)) ∧
      (partUp.withPendingSettings (.seg .seg4) (some (segSettings .uplink))).applyPending (.seg .seg4) =
        partUp.withPendingSettings (.seg .seg4) (some (segSettings .uplink)) := by decide +kernel

/-- The output pins: the first start bit and the first data bit of byte 1, a port at rest, and a cut character with its driver
enabled to its end. -/
theorem test_output_pins :
    ((partUp.withTx .trunk ⟨.sending .alert 0, none⟩).withAlertLane (some [1#8])).txdLevel .trunk = false ∧
      ({ (partUp.withTx .trunk ⟨.sending .alert 0, none⟩).withAlertLane (some [1#8]) with now := 15000 }).txdLevel .trunk = true ∧
      partUp.txdLevel .trunk = true ∧ partUp.driverEnable .seg1 = false ∧
      ({ partUp.withTx (.seg .seg1) ⟨.off, some ⟨1#8, 0⟩⟩ with now := 164999 }).driverEnable .seg1 = true ∧
      ({ partUp.withTx (.seg .seg1) ⟨.off, some ⟨1#8, 0⟩⟩ with now := 165000 }).driverEnable .seg1 = false ∧
      factorySegment.settings.characterBits = 11 ∧ factorySegment.settings.bitFine = 15000 := by decide +kernel

/-- `partUp` with port `p` sending `cur`. -/
def sendingFrom (p : Port) (cur : Current) : State := partUp.withTx p ⟨.sending cur 0, none⟩

theorem test_meets_send_ends :
    ((sendingFrom .trunk (.descriptor (aDescriptor .plain .normal))).port .trunk).tx.state =
        .sending (.descriptor (aDescriptor .plain .normal)) 0 ∧
      ((withSlot (sendingFrom (.seg .seg1) (.retry 63)) (.sendingExchange anExchange)).seg .seg1).slot = .sendingExchange anExchange ∧
      (((sendingFrom .trunk .reply).withLane .trunk (some ⟨[1#8], 0, none⟩)).port .trunk).lane = some ⟨[1#8], 0, none⟩ ∧
      ({ partUp.agent with deferred := some { owed with built := some ⟨[1#8], 0, none⟩ } }).owedTo .trunk = some ⟨[1#8], 0, none⟩ ∧
      ({ partUp.agent with mode := .replyWait .trunk ⟨[1#8], 0, none⟩ }).heldFor .trunk = some ⟨[1#8], 0, none⟩ ∧
      partUp.agent.owedTo .trunk = none ∧ partUp.agent.heldFor .trunk = none := by decide +kernel

theorem test_restart_reply_takes_its_reset :
    ((after (.sendEnd .trunk) ((sendingFrom .trunk .reply).withLane .trunk (some ⟨[1#8], 0, some .cold⟩))).resetCause = .cold) ∧
      ((after (.sendEnd .trunk) ((sendingFrom .trunk .reply).withLane .trunk (some ⟨[1#8], 0, some .warm⟩))).resetCause = .warm) := by
  decide +kernel

/-- An alert unit in state `a` after `n` repeats, its timer due at 0. -/
def alertUnit (a : AlertState) (n : Nat) : AlertUnit := ⟨a, 1#8, CauseSet.empty, some anAlert, n, some 0⟩

theorem test_meets_AlertIsSentAndRepeated :
    ((after .repeatTimerExpiry { partUp with alert := alertUnit .outstanding 2 }).alert.repeatCount = 3) ∧
      ((after .repeatTimerExpiry { partUp with alert := alertUnit .outstanding 3 }).alert.state = .stalled) ∧
      ((sendingFrom .trunk .alert).port .trunk).tx.state = .sending .alert 0 := by decide +kernel

/-! ### The profile store -/

/-- A part in the middle of a commit. -/
def committing : State :=
  { partUp with
    store := ⟨Bank.manufactured, Bank.manufactured, .committing ⟨.a, 1#32, factoryProfile⟩⟩
    agent := { Agent.wiped with deferred := some owed } }

theorem test_commit_completes :
    (after (.commitCompletion []) committing).store.bankA.valid = true ∧
      (after (.commitCompletion [(5, 9#8)]) committing).store.bankA.valid = false ∧
      ((after (.commitCompletion [(5, 9#8)]) committing).port .trunk).lane.map (·.frame.take 4) =
        some [250#8, 0x50#8, 7#8, CommandOutcome.storeFail.code] := by decide +kernel

theorem test_meets_CommitCompletionSettlesTheTarget :
    (CommitJob.mk .a 1#32 factoryProfile).readsBack [] = true ∧
      (CommitJob.mk .a 1#32 factoryProfile).readsBack [(4, 9#8)] = false ∧
      (CommitJob.mk .a 1#32 factoryProfile).readsBack [(3167, 9#8)] = false := by decide +kernel

theorem test_meets_LoadCompletionAppliesTheImage :
    ({ partUp with store := ⟨writtenBank 1#32, Bank.manufactured, .loading .a⟩ }).store.state = .loading .a ∧
      (writtenBank 1#32).storedProfile? = some factoryProfile := ⟨rfl, writtenBank_profile 1#32⟩

/-- A store with two valid banks of these generations. -/
def twoBanks (a b : BitVec 32) : Store := ⟨⟨1#32, Memory.ofBytes 4 (be32 a.toNat), true⟩, ⟨1#32, Memory.ofBytes 4 (be32 b.toNat), true⟩, .idle⟩

theorem test_meets_NewestBankByGenerations :
    (twoBanks 1#32 0#32).newest = some .a ∧ (twoBanks 2147483647#32 0#32).newest = some .a ∧
      (twoBanks 2147483648#32 0#32).newest = some .a ∧ (twoBanks 2147483649#32 0#32).newest = some .b ∧
      (twoBanks 4294967295#32 1#32).newest = some .b ∧ (twoBanks 5#32 5#32).newest = some .a := by decide +kernel

/-! ### Management commands -/

/-- Every row's request of `requests`, and COMMIT, is taken. -/
theorem test_meets_Takes (x : RowCase) (h : x ∈ ⟨.commit, 0x50#8, [], .done⟩ :: requests) :
    (withRequest partUp x.code x.body).Takes x.row theEntry [] := by
  have all : ∀ x ∈ (⟨.commit, 0x50#8, [], .done⟩ :: requests : List RowCase),
      (withRequest partUp x.code x.body).clockRunning = true ∧ (withRequest partUp x.code x.body).agent.mode = .idle ∧
        (withRequest partUp x.code x.body).agent.input = theEntry :: [] ∧
        ((withRequest partUp x.code x.body).requestOf theEntry).row = x.row ∧
        (withRequest partUp x.code x.body).agentCheckFails theEntry = false := by decide +kernel
  exact takes_of (all x h)

theorem test_meets_bodies :
    port? 0#8 = some .trunk ∧ port? 1#8 = some (.seg .seg1) ∧ port? 4#8 = some (.seg .seg4) ∧ port? 5#8 = none ∧
      portSettings? (4#8 :: (segSettings .uplink).encode) = some (.seg .seg4, segSettings .uplink) ∧
      rule? (anyRule .drop).encode = some (anyRule .drop) ∧
      agentSettings? [254#8, 0x1F#8, 0#8, 100#8] = some ⟨254#8, CauseSet.full, 100⟩ ∧
      agentSettings? [255#8, 0x1F#8, 0#8, 100#8] = none ∧ agentSettings? [1#8, 0x1F#8, 0#8, 99#8] = none ∧
      (twoBanks 1#32 0#32).newest = some .a ∧ (⟨Bank.manufactured, Bank.manufactured, .idle⟩ : Store).newest = none := by
  decide +kernel

/-- A settings record of a segment and one of the trunk, written out by 9.5.1. -/
theorem test_settings_blocks_by_their_bytes :
    portSettings? [4#8, 0x00#8, 0x08#8, 0x01#8, 0x01#8, 0x00#8, 0x04#8, 0x07#8, 0xD0#8, 0x27#8, 0x10#8, 0x03#8, 0xE8#8, 0x00#8,
        0x01#8, 0x00#8] =
        some (.seg .seg4, ⟨.field, 8, .even, false, .none, 4, some ⟨2000, 10000, 1000, 1⟩, false⟩) ∧
      (⟨.uplink, 8, .odd, true, .check16, 80, none, true⟩ : Settings).encode =
        [0x01#8, 0x08#8, 0x02#8, 0x02#8, 0x01#8, 0x50#8, 0xFF#8, 0xFF#8, 0xFF#8, 0xFF#8, 0xFF#8, 0xFF#8, 0xFF#8, 0xFF#8, 0x01#8] := by
  decide +kernel

/-- An EXCHANGE entry and a FORWARD entry, written out by 9.5.2. -/
theorem test_rule_entries_by_their_bytes :
    rule? [0x1F#8, 0x00#8, 0x05#8, 0x01#8, 0x00#8, 0x02#8, 0x04#8, 0x01#8, 0x03#8, 0x01#8, 0x01#8, 0x09#8, 0xAA#8, 0xF0#8] =
        some ⟨PerPort.all true, 5, 256, [⟨9, 0xAA#8, 0xF0#8⟩], .exchange .seg4 .urgent 3 true⟩ ∧
      (⟨⟨true, ⟨false, false, false, true⟩⟩, 1, 2, [], .forward ⟨false, ⟨true, true, false, false⟩⟩ .normal⟩ : Rule).encode =
        [0x11#8, 0x00#8, 0x01#8, 0x00#8, 0x02#8, 0x01#8, 0x06#8, 0x00#8, 0xFF#8, 0xFF#8, 0x00#8] := by decide +kernel

/-- A profile with an entry at index 127 alone is in range. -/
theorem test_meets_the_image_layout :
    ({ factoryProfile with rules := (tableWith .drop).map (Option.map Entry.rule) }).inRange = true ∧
      ((tableWith .drop).map (Option.map Entry.rule))[127]? = some (some (anyRule .drop)) ∧
      ((tableWith .drop).map (Option.map Entry.rule))[0]? = some none := by decide +kernel

/-- DISABLE PORT of segment 4, which is disabled and whose lane holds a restart reply, and of segment 2 with such a reply. -/
def disableWith (sg : Seg) (n : Byte) : State :=
  (withRequest partUp 0x13#8 [n]).withLane (.seg sg) (some ⟨[1#8], 9, some .warm⟩)

theorem test_meets_DisablePortStopsTheSegment :
    (disableWith .seg4 4#8).Takes .disablePort theEntry [] ∧ (disableWith .seg2 2#8).Takes .disablePort theEntry [] ∧
      ((disableWith .seg4 4#8).port (.seg .seg4)).enabled = false ∧
      ((disableWith .seg2 2#8).port (.seg .seg2)).enabled = true ∧
      ((disableWith .seg2 2#8).port (.seg .seg2)).lane.bind (·.restart) = some .warm ∧
      (after .disablePort (disableWith .seg4 4#8)).resetCause = .power ∧
      (after .disablePort (disableWith .seg2 2#8)).resetCause = .warm ∧ (disableWith .seg4 4#8).store.state = .idle :=
  ⟨takes_of (by decide +kernel), takes_of (by decide +kernel), by decide +kernel⟩

/-- The records' places for something to be in: a full range of hit counts, a snapshot of eight bytes, an error-free reply. -/
theorem test_meets_records :
    68 + 60 ≤ partUp.rules.length ∧ (⟨.nobuf, 0#32, 256, List.replicate 8 0#8, 255#8⟩ : Snapshot).bytes.length ≤ 8 ∧
      replyFrame 250#8 0x70#8 7#8 .badCmd [] = withCheck [250#8, 0x70#8, 7#8, 2#8] := by decide +kernel

theorem test_meets_ack_alert :
    (alertUnit .outstanding 0).current = some anAlert ∧ anAlert.sequence = 1#8 ∧
      (after .ackAlert { withRequest partUp 0x40#8 [1#8] with alert := alertUnit .stalled 0 }).alert.state = .quiet ∧
      (after .ackAlert { withRequest partUp 0x40#8 [2#8] with alert := alertUnit .stalled 0 }).alert.state = .stalled := by
  decide +kernel

theorem test_meets_RefusedCommandsChangeNothing :
    (withRequest { committing with pool := partUp.pool } 0x13#8 [1#8]).Takes .disablePort theEntry [] ∧
      committing.store.state ≠ .idle ∧ partUp.store.state = .idle ∧
      (withRequest partUp 0x5F#8 [2#8]).Takes .restartCold theEntry [] :=
  ⟨takes_of (by decide +kernel), by decide +kernel, rfl, takes_of (by decide +kernel)⟩

/-- RESTART from a port that has gone off since. -/
theorem test_meets_RestartMarksItsReply :
    ((withRequest partUp 0x5F#8 [1#8]).port theEntry.source).isOff = false ∧ (partUp.port (.seg .seg4)).isOff = true ∧
      (partUp.port (.seg .seg1)).settings.role = .field := by decide +kernel

/-- A frame queued from a port without a check that fails the agent's own check. -/
theorem test_meets_BadOrAbsentCommandsAreNotCarriedOut :
    passesCheck ((withRequest partUp 0x01#8 []).pool.frame 63) = true ∧
      passesCheck (({ partUp with pool := poolWith [250#8, 1#8, 7#8, 0#8, 0#8] }).pool.frame 63) = false ∧
      (Request.ofFrame .trunk 250#8 [250#8, 1#8, 7#8, 0#8, 0#8]).row = .identify := by decide +kernel

/-! ### Laws -/

theorem partUp_keeps_the_laws :
    partUp.pool.lawful ∧ partUp.countsHolders ∧ partUp.memoryWf ∧ partUp.bounded ∧ partUp.settingsOk ∧ partUp.slotsFollowRoles := by
  decide +kernel

theorem partUp_keeps_the_alert_and_attempt_laws : partUp.attemptsOk ∧ partUp.alertsOk := by
  refine ⟨?_, ?_, ?_, ?_⟩
  · intro sg h
    fin_cases h <;> exact ⟨by decide +kernel, fun r h => by revert h; exact nofun⟩
  · decide +kernel
  · decide +kernel
  · intro h
    exact absurd h (by decide +kernel)

theorem partUp_accounts_for_every_buffer : partUp.holdersOk := by
  refine ⟨partUp_keeps_the_laws.1, partUp_keeps_the_laws.2.1, partUp_keeps_the_laws.2.2.2.2.2,
    partUp_keeps_the_alert_and_attempt_laws.1, by decide +kernel, by decide +kernel, by decide +kernel, by decide +kernel, ?_,
    by decide +kernel⟩
  rintro (h | ⟨src, h⟩)
  · exact absurd h (by decide +kernel)
  · exact absurd h nofun

/-- A part in the middle of a commit is in range throughout. -/
theorem committing_is_in_range : committing.configOk := by
  refine ⟨by decide +kernel, by decide +kernel, by decide +kernel, by decide +kernel, nofun, ?_⟩
  intro j h
  injection h with h
  subst h
  exact test_factory_profile_in_range

theorem test_meets_next_states :
    step partUp = .next { partUp with now := 1, subMicro := 1 } ∧
      exec .clkinStops partUp = .next { partUp with clockRunning := false } := ⟨rfl, rfl⟩

end Sys2Proof.Tests
end

section
/-! SUPPORT. Whatever chapter 9's decoders answer has passed the range checks of R3, R51, R143 and R172. -/

namespace Sys2Proof.Machine

theorem agentSettings?_inRange {bytes : List Byte} {a : AgentSettings} (h : agentSettings? bytes = some a) :
    a.inRange = true := by
  unfold agentSettings? at h
  split at h
  · split at h
    · exact (Option.filter_eq_some_iff.mp h).2
    · nomatch h
  · nomatch h

theorem settings?_inRange {p : Port} {bytes : List Byte} {st : Settings} (h : settings? p bytes = some st) :
    st.inRange p = true := by
  unfold settings? at h
  split at h
  · split at h
    · exact (Option.filter_eq_some_iff.mp h).2
    · nomatch h
  · nomatch h

theorem portRecord?_inRange {p : Port} {bytes : List Byte} {r : PortRecord} (h : portRecord? p bytes = some r) :
    r.inRange p = true := by
  unfold portRecord? at h
  split at h
  · split at h
    · exact (Option.filter_eq_some_iff.mp h).2
    · nomatch h
  · nomatch h

theorem rule?_inRange {bytes : List Byte} {r : Rule} (h : rule? bytes = some r) : r.inRange = true := by
  unfold rule? at h
  split at h
  · split at h
    · exact (Option.filter_eq_some_iff.mp h).2
    · nomatch h
  · nomatch h

/-- A port record in range has its settings in range, and the trunk's is enabled (R172). -/
theorem PortRecord.inRange_iff {p : Port} {r : PortRecord} :
    r.inRange p = true ↔ r.settings.inRange p = true ∧ (p = .trunk → r.enabled = true) := by
  cases p <;> simp [PortRecord.inRange]

/-- A list of rule slots whose every entry is in range (R51). -/
def rulesInRange (rs : List (Option Rule)) : Prop := rs.length = Config.ruleEntries ∧ ∀ e ∈ rs, ∀ r ∈ e, r.inRange = true

theorem rulesInRange_set {rs : List (Option Rule)} (h : rulesInRange rs) (i : Nat) {e : Option Rule}
    (he : ∀ r ∈ e, r.inRange = true) : rulesInRange (rs.set i e) := by
  obtain ⟨hlen, hall⟩ := h
  refine ⟨by simpa using hlen, fun d hd => ?_⟩
  rcases List.mem_or_eq_of_mem_set hd with hd | rfl
  · exact hall d hd
  · exact he

theorem length_pieces (n k : Nat) (bytes : List Byte) : (pieces n k bytes).length = k := by
  induction k generalizing bytes with
  | zero => rfl
  | succ k ih => simp [pieces, ih]

/-- Reading all of a list gives as many results, each read from one of its items. -/
theorem readAll_some {α β : Type} {f : α → Option β} {xs : List α} {ys : List β} (h : readAll f xs = some ys) :
    ys.length = xs.length ∧ ∀ y ∈ ys, ∃ x, f x = some y := by
  induction xs generalizing ys with
  | nil => cases h; simp
  | cons x xs ih =>
    unfold readAll at h
    split at h
    · rename_i y zs hy hzs
      cases h
      obtain ⟨hlen, hall⟩ := ih hzs
      exact ⟨by simp [hlen], List.forall_mem_cons.mpr ⟨⟨x, hy⟩, hall⟩⟩
    · nomatch h

theorem ruleSlot?_inRange {bytes : List Byte} {e : Option Rule} (h : ruleSlot? bytes = some e) : ∀ r ∈ e, r.inRange = true := by
  unfold ruleSlot? at h
  split at h
  · split at h
    · cases h; simp
    · obtain ⟨r, hr, rfl⟩ := Option.map_eq_some_iff.mp h
      intro x hx
      cases hx
      exact rule?_inRange hr
    · nomatch h
  · nomatch h

/-- What makes a profile in range (R172), part by part. -/
theorem Profile.inRange_iff {x : Profile} :
    x.inRange = true ↔ x.agent.inRange = true ∧ (∀ p, (x.ports.get p).inRange p = true) ∧ rulesInRange x.rules := by
  have ports : (∀ p, (x.ports.get p).inRange p = true) ↔
      x.ports.trunk.inRange .trunk = true ∧ x.ports.segs.seg1.inRange (.seg .seg1) = true ∧
        x.ports.segs.seg2.inRange (.seg .seg2) = true ∧ x.ports.segs.seg3.inRange (.seg .seg3) = true ∧
        x.ports.segs.seg4.inRange (.seg .seg4) = true := by
    refine ⟨fun h => ⟨h .trunk, h (.seg .seg1), h (.seg .seg2), h (.seg .seg3), h (.seg .seg4)⟩, ?_⟩
    rintro ⟨ht, h1, h2, h3, h4⟩ (_ | sg)
    · exact ht
    · cases sg
      exacts [h1, h2, h3, h4]
  rw [ports, rulesInRange]
  simp only [Profile.inRange, Bool.and_eq_true, decide_eq_true_eq, List.all_eq_true, and_assoc]
  iterate 7 refine and_congr_right fun _ => ?_
  refine forall₂_congr fun e _ => ?_
  cases e <;> simp

theorem portRecords?_inRange {bytes : List Byte} {ps : PerPort PortRecord} (h : portRecords? bytes = some ps) (p : Port) :
    (ps.get p).inRange p = true := by
  unfold portRecords? at h
  split at h
  · rename_i ht h1 h2 h3 h4
    cases h
    cases p with
    | trunk => exact portRecord?_inRange ht
    | seg sg =>
      cases sg
      exacts [portRecord?_inRange h1, portRecord?_inRange h2, portRecord?_inRange h3, portRecord?_inRange h4]
  · nomatch h

/-- An image that reads passes every check of R172. -/
theorem profile?_inRange {bytes : List Byte} {x : Profile} (h : profile? bytes = some x) : x.inRange = true := by
  unfold profile? at h
  split at h
  · rename_i agent ports rules ha hp hr
    cases h
    obtain ⟨hlen, hall⟩ := readAll_some hr
    refine Profile.inRange_iff.mpr ⟨agentSettings?_inRange ha, portRecords?_inRange hp, ?_, fun e he => ?_⟩
    · rw [hlen, length_pieces]
    · obtain ⟨piece, hpiece⟩ := hall e he
      exact ruleSlot?_inRange hpiece
  · nomatch h

theorem factoryProfile_inRange : factoryProfile.inRange = true := by decide +kernel

/-- The profile that a load or a start-up load reads is in range, whatever its source holds. -/
theorem Store.profileOf_inRange (st : Store) (source : Option BankId) : (st.profileOf source).inRange = true := by
  unfold Store.profileOf
  split
  · exact factoryProfile_inRange
  · rename_i id
    cases h : (st.bank id).storedProfile? with
    | none => exact factoryProfile_inRange
    | some x => exact profile?_inRange h

end Sys2Proof.Machine
end

section
/-! SUPPORT. The configuration of the part as one value, `State.setup`: what programs set and what is captured from it. Most operations
leave it as it is; what any event can do to it is a sequence of `Setup.Move`s, and each law of the configuration is kept by
every one of them. -/

namespace Sys2Proof.Machine

/-- A port's active record and its pending one (R2, R4). -/
structure PortSetup where
  active : Settings
  waiting : Option Settings

/-- What programs set: port records, the rule table, the agent settings and what waits to be set; the image that a running commit
has captured; and which segments' slots are in use (R87). -/
structure Setup where
  ports : PerPort PortSetup
  trunkEnabled : Bool
  inUse : PerSeg Bool
  rules : List (Option Rule)
  agent : AgentSettings
  address : Option PendingAddress
  image : Option Profile

def PortState.setup (x : PortState) : PortSetup := ⟨x.settings, x.pendingSettings⟩

def Slot.inUse (sl : Slot) : Bool := decide (sl ≠ .outOfUse)

/-- The image that a running commit has captured (R144). -/
def StoreState.image (st : StoreState) : Option Profile :=
  match st with
  | .committing j => some j.image
  | .idle | .loading _ | .startup _ => none

/-- The rule table without its hit counts. -/
def writtenRules (rules : List (Option Entry)) : List (Option Rule) := rules.map fun e => e.map (·.rule)

/-- The configuration of the part. -/
def State.setup (s : State) : Setup where
  ports := s.ports.map PortState.setup
  trunkEnabled := (s.port .trunk).enabled
  inUse := s.segs.map fun x => x.slot.inUse
  rules := writtenRules s.rules
  agent := s.agent.settings
  address := s.agent.pendingAddress
  image := s.store.state.image

/-! ### What can happen to the configuration -/

/-- The agent settings once a pending address is in force (R127). -/
def AgentSettings.settled (a : AgentSettings) (pa : PendingAddress) : AgentSettings :=
  ⟨pa.address, (pa.alongside.map (·.1)).getD a.mask, (pa.alongside.map (·.2)).getD a.interval⟩

/-- The role in which a segment's slot is in use (R87). -/
def Role.usesSlot (r : Role) : Bool :=
  match r with
  | .field => true
  | .uplink => false

/-- A slot comes to be in use, or out of use, as a role says (R87). -/
def Setup.follow (v : Setup) (p : Port) (r : Role) : Setup :=
  match p with
  | .trunk => v
  | .seg sg => { v with inUse := v.inUse.set sg r.usesSlot }

/-- A record becomes active on a port, and nothing waits there any longer (R6). -/
def Setup.place (v : Setup) (p : Port) (st : Settings) : Setup :=
  Setup.follow { v with ports := v.ports.set p ⟨st, none⟩ } p st.role

/-- The configuration after a reset of a cold kind, until the start-up load has completed (R20, log 12). -/
def Setup.wiped : Setup where
  ports := ⟨⟨factoryTrunk.settings, none⟩, PerSeg.all ⟨factorySegment.settings, none⟩⟩
  trunkEnabled := true
  inUse := PerSeg.all true
  rules := List.replicate Config.ruleEntries none
  agent := factoryAgent
  address := none
  image := none

/-- One thing that an event may do to the configuration. -/
inductive Setup.Move : Setup → Setup → Prop
  /-- a port's own record, active or pending, becomes active (R5, R18) -/
  | adopt (v : Setup) (p : Port) (st : Settings) (h : st = (v.ports.get p).active ∨ (v.ports.get p).waiting = some st) :
      Move v (v.place p st)
  /-- a profile's record becomes active (R185) -/
  | install (v : Setup) (p : Port) (st : Settings) (h : st.inRange p = true) : Move v (v.place p st)
  /-- a record that has passed its checks is placed as pending (R131, R182) -/
  | offer (v : Setup) (p : Port) (st : Settings) (h : st.inRange p = true) :
      Move v { v with ports := v.ports.set p ⟨(v.ports.get p).active, some st⟩ }
  /-- a pending record is removed (R21) -/
  | retract (v : Setup) (p : Port) : Move v { v with ports := v.ports.set p ⟨(v.ports.get p).active, none⟩ }
  /-- the trunk is enabled -/
  | trunkUp (v : Setup) : Move v { v with trunkEnabled := true }
  /-- a slot comes to be as its segment's role says (R87) -/
  | follow (v : Setup) (p : Port) : Move v (v.follow p (v.ports.get p).active.role)
  /-- an entry is written or deleted (R53, R54) -/
  | entry (v : Setup) (i : Nat) (e : Option Rule) (h : ∀ r ∈ e, r.inRange = true) : Move v { v with rules := v.rules.set i e }
  /-- the table is filled from a profile (R60 to R62) -/
  | table (v : Setup) (rs : List (Option Rule)) (h : rulesInRange rs) : Move v { v with rules := rs }
  /-- the agent settings are set from a profile (R185) -/
  | agent (v : Setup) (a : AgentSettings) (h : a.inRange = true) : Move v { v with agent := a, address := none }
  /-- SET AGENT: mask and interval at once, the address waits (R127, R143) -/
  | setAgent (v : Setup) (a : AgentSettings) (tie : Nat) (h : a.inRange = true) :
      Move v { v with agent := { a with address := v.agent.address }, address := some ⟨a.address, tie, none⟩ }
  /-- a LOAD's agent settings wait (R127, R182) -/
  | await (v : Setup) (a : AgentSettings) (tie : Nat) (h : a.inRange = true) :
      Move v { v with address := some ⟨a.address, tie, some (a.mask, a.interval)⟩ }
  /-- a pending address takes effect (R127) -/
  | settle (v : Setup) (pa : PendingAddress) (h : v.address = some pa) :
      Move v { v with agent := v.agent.settled pa, address := none }
  /-- a pending address is forgotten (R148) -/
  | forget (v : Setup) : Move v { v with address := none }
  /-- a commit captures its image (R144) -/
  | capture (v : Setup) (x : Profile)
      (agent : x.agent = { v.agent with address := (v.address.map (·.address)).getD v.agent.address })
      (ports : ∀ p, (x.ports.get p).settings = (v.ports.get p).waiting.getD (v.ports.get p).active)
      (trunk : (x.ports.get .trunk).enabled = v.trunkEnabled) (rules : x.rules = v.rules) : Move v { v with image := some x }
  /-- no commit runs any longer (R177, R180) -/
  | release (v : Setup) : Move v { v with image := none }
  /-- a reset of a cold kind (R20) -/
  | wipe (v : Setup) : Move v Setup.wiped

/-- `t` comes from `s` by moves of the configuration. -/
def State.Sets (s t : State) : Prop := Relation.ReflTransGen Setup.Move s.setup t.setup

theorem State.Sets.trans {a b c : State} (h : a.Sets b) (k : b.Sets c) : a.Sets c := Relation.ReflTransGen.trans h k

theorem State.Sets.of_eq {s t : State} (h : t.setup = s.setup) : s.Sets t := by
  rw [State.Sets, h]

theorem State.Sets.refl (s : State) : s.Sets s := .of_eq rfl

theorem State.Sets.of_move {s t : State} (h : Setup.Move s.setup t.setup) : s.Sets t := .single h

theorem State.foldl_sets {α : Type} {f : State → α → State} (hf : ∀ s a, State.Sets s (f s a)) (l : List α) (s : State) :
    s.Sets (l.foldl f s) := by
  induction l generalizing s with
  | nil => exact .refl s
  | cons a l ih => exact (hf s a).trans (ih _)

/-! ### The laws in terms of the configuration -/

/-- `State.settingsOk`, read off the configuration. -/
def Setup.settingsOk (v : Setup) : Prop :=
  (∀ p, (v.ports.get p).active.inRange p = true ∧ ∀ st ∈ (v.ports.get p).waiting, st.inRange p = true) ∧ v.trunkEnabled = true

/-- `State.slotsFollowRoles`, read off the configuration. -/
def Setup.slotsFollowRoles (v : Setup) : Prop :=
  ∀ sg, v.inUse.get sg = (v.ports.get (.seg sg)).active.role.usesSlot

/-- `State.configOk`, read off the configuration. -/
structure Setup.Ok (v : Setup) : Prop where
  settings : v.settingsOk
  rules : rulesInRange v.rules
  agent : v.agent.inRange = true
  address : ∀ pa ∈ v.address,
    AgentSettings.inRange ⟨pa.address, v.agent.mask, (pa.alongside.map (·.2)).getD v.agent.interval⟩ = true
  image : ∀ x ∈ v.image, x.inRange = true

@[simp] theorem State.setup_ports (s : State) (p : Port) : s.setup.ports.get p = (s.port p).setup := PerPort.get_map _ _ p

@[simp] theorem State.setup_inUse (s : State) (sg : Seg) : s.setup.inUse.get sg = (s.seg sg).slot.inUse :=
  PerSeg.get_map (fun x : SegState => x.slot.inUse) _ sg

theorem State.settingsOk_iff (s : State) : s.settingsOk ↔ s.setup.settingsOk := by
  simp only [State.settingsOk, Setup.settingsOk, Port.mem_list, forall_const, State.setup_ports]
  rfl

/-- A slot is in use exactly when the role uses it, in the words of R87. -/
theorem Slot.inUse_eq_usesSlot (sl : Slot) (r : Role) : sl.inUse = r.usesSlot ↔ (sl = .outOfUse ↔ r = .uplink) := by
  cases r <;> simp [Slot.inUse, Role.usesSlot]

theorem State.slotsFollowRoles_iff (s : State) : s.slotsFollowRoles ↔ s.setup.slotsFollowRoles := by
  simp only [State.slotsFollowRoles, Setup.slotsFollowRoles, Seg.mem_list, forall_const, State.setup_inUse, State.setup_ports,
    Slot.inUse_eq_usesSlot]
  rfl

theorem rulesInRange_writtenRules (rules : List (Option Entry)) :
    rulesInRange (writtenRules rules) ↔
      rules.length = Config.ruleEntries ∧ ∀ e ∈ rules, ∀ x ∈ e, x.rule.inRange = true := by
  simp [rulesInRange, writtenRules]

theorem StoreState.forall_image (st : StoreState) (q : Profile → Prop) :
    (∀ x ∈ st.image, q x) ↔ ∀ j, st = .committing j → q j.image := by
  cases st <;> simp [StoreState.image]

theorem State.configOk_iff (s : State) : s.configOk ↔ s.setup.Ok := by
  have rules := rulesInRange_writtenRules s.rules
  have image := s.store.state.forall_image (fun x => x.inRange = true)
  constructor
  · rintro ⟨hset, hlen, hrules, hagent, haddress, himage⟩
    exact ⟨s.settingsOk_iff.mp hset, rules.mpr ⟨hlen, hrules⟩, hagent, haddress, image.mpr himage⟩
  · rintro ⟨hset, hrules, hagent, haddress, himage⟩
    exact ⟨s.settingsOk_iff.mpr hset, (rules.mp hrules).1, (rules.mp hrules).2, hagent, haddress, image.mp himage⟩

/-! ### Every move keeps every law -/

@[simp] theorem Setup.place_ports (v : Setup) (p : Port) (st : Settings) : (v.place p st).ports = v.ports.set p ⟨st, none⟩ := by
  cases p <;> rfl
@[simp] theorem Setup.place_trunkEnabled (v : Setup) (p : Port) (st : Settings) :
    (v.place p st).trunkEnabled = v.trunkEnabled := by cases p <;> rfl
@[simp] theorem Setup.place_rules (v : Setup) (p : Port) (st : Settings) : (v.place p st).rules = v.rules := by cases p <;> rfl
@[simp] theorem Setup.place_agent (v : Setup) (p : Port) (st : Settings) : (v.place p st).agent = v.agent := by cases p <;> rfl
@[simp] theorem Setup.place_address (v : Setup) (p : Port) (st : Settings) : (v.place p st).address = v.address := by
  cases p <;> rfl
@[simp] theorem Setup.place_image (v : Setup) (p : Port) (st : Settings) : (v.place p st).image = v.image := by cases p <;> rfl

/-- Setting one port's records to records in range keeps R3 and the enabled trunk. -/
theorem Setup.settingsOk_set {v w : Setup} (h : v.settingsOk) {p : Port} {x : PortSetup} (hp : w.ports = v.ports.set p x)
    (ht : w.trunkEnabled = v.trunkEnabled) (ha : x.active.inRange p = true) (hw : ∀ st ∈ x.waiting, st.inRange p = true) :
    w.settingsOk := by
  refine ⟨fun q => ?_, ht.trans h.2⟩
  rw [hp]
  by_cases hq : q = p
  · subst hq
    simpa using ⟨ha, hw⟩
  · simpa [hq] using h.1 q

theorem Setup.Move.settingsOk {v w : Setup} (m : Setup.Move v w) (h : v.settingsOk) : w.settingsOk := by
  cases m with
  | adopt p st hst =>
    refine Setup.settingsOk_set h (v.place_ports p st) (v.place_trunkEnabled p st) ?_ (by simp)
    rcases hst with rfl | hst
    · exact (h.1 p).1
    · exact (h.1 p).2 st hst
  | install p st hst => exact Setup.settingsOk_set h (v.place_ports p st) (v.place_trunkEnabled p st) hst (by simp)
  | offer p st hst => exact Setup.settingsOk_set h rfl rfl (h.1 p).1 (by simpa using hst)
  | retract p => exact Setup.settingsOk_set h rfl rfl (h.1 p).1 (by simp)
  | trunkUp => exact ⟨h.1, rfl⟩
  | follow p => cases p <;> exact h
  | wipe =>
    refine ⟨fun p => ?_, rfl⟩
    cases p with
    | trunk => decide
    | seg sg => cases sg <;> decide
  | _ => exact h

/-- A port's new active record with its segment's slot set by that record's role keeps R87. -/
theorem Setup.slotsFollowRoles_place {v : Setup} (h : v.slotsFollowRoles) (p : Port) (st : Settings) :
    (v.place p st).slotsFollowRoles := by
  intro sg
  rw [Setup.place_ports]
  by_cases hp : Port.seg sg = p
  · subst hp
    simp [Setup.place, Setup.follow]
  · cases p with
    | trunk => simpa [Setup.place, Setup.follow] using h sg
    | seg r =>
      have hr : sg ≠ r := fun e => hp (e ▸ rfl)
      simpa [Setup.place, Setup.follow, hr] using h sg

/-- Setting one port's pending record keeps R87. -/
theorem Setup.slotsFollowRoles_waiting {v : Setup} (h : v.slotsFollowRoles) (p : Port) (w : Option Settings) :
    Setup.slotsFollowRoles { v with ports := v.ports.set p ⟨(v.ports.get p).active, w⟩ } := by
  intro sg
  by_cases hp : Port.seg sg = p
  · subst hp
    simpa using h sg
  · simpa [hp] using h sg

theorem Setup.Move.slotsFollowRoles {v w : Setup} (m : Setup.Move v w) (h : v.slotsFollowRoles) : w.slotsFollowRoles := by
  cases m with
  | adopt p st _ => exact Setup.slotsFollowRoles_place h p st
  | install p st _ => exact Setup.slotsFollowRoles_place h p st
  | offer p st _ => exact Setup.slotsFollowRoles_waiting h p _
  | retract p => exact Setup.slotsFollowRoles_waiting h p _
  | follow p =>
    intro sg
    cases p with
    | trunk => exact h sg
    | seg r =>
      by_cases hr : sg = r
      · subst hr; simp [Setup.follow]
      · simpa [Setup.follow, hr] using h sg
  | wipe =>
    intro sg
    cases sg <;> rfl
  | _ => exact h

/-- The checks of R143 are on the address and the interval, each by itself. -/
theorem AgentSettings.inRange_iff (a : AgentSettings) :
    a.inRange = true ↔ (1 ≤ a.address.toNat ∧ a.address.toNat ≤ 254) ∧ 100 ≤ a.interval ∧ a.interval ≤ 10000 := by
  simp [AgentSettings.inRange, and_assoc]

/-- What a commit captures is in range (R144, R172). -/
theorem Setup.Ok.captured {v : Setup} (h : v.Ok) {x : Profile}
    (agent : x.agent = { v.agent with address := (v.address.map (·.address)).getD v.agent.address })
    (ports : ∀ p, (x.ports.get p).settings = (v.ports.get p).waiting.getD (v.ports.get p).active)
    (trunk : (x.ports.get .trunk).enabled = v.trunkEnabled) (rules : x.rules = v.rules) : x.inRange = true := by
  refine Profile.inRange_iff.mpr ⟨?_, fun p => PortRecord.inRange_iff.mpr ⟨?_, ?_⟩, rules ▸ h.rules⟩
  · rw [agent]
    cases ha : v.address with
    | none => exact h.agent
    | some pa =>
      have haddress := (AgentSettings.inRange_iff _).mp (h.address pa ha)
      have hagent := (AgentSettings.inRange_iff _).mp h.agent
      exact (AgentSettings.inRange_iff _).mpr ⟨haddress.1, hagent.2⟩
  · rw [ports p]
    obtain ⟨hactive, hwaiting⟩ := h.settings.1 p
    cases hw : (v.ports.get p).waiting with
    | none => exact hactive
    | some st => exact hwaiting st hw
  · rintro rfl
    rw [trunk]
    exact h.settings.2

theorem rulesInRange_empty : rulesInRange (List.replicate Config.ruleEntries none) := by
  refine ⟨List.length_replicate, fun e he r hr => ?_⟩
  rw [List.eq_of_mem_replicate he] at hr
  nomatch hr

theorem Setup.Move.ok {v w : Setup} (m : Setup.Move v w) (h : v.Ok) : w.Ok := by
  have settings : w.settingsOk := m.settingsOk h.settings
  have captured := @h.captured
  obtain ⟨_, hrules, hagent, haddress, himage⟩ := h
  cases m with
  | adopt p st _ => exact ⟨settings, by simpa using hrules, by simpa using hagent, by simpa using haddress, by simpa using himage⟩
  | install p st _ => exact ⟨settings, by simpa using hrules, by simpa using hagent, by simpa using haddress, by simpa using himage⟩
  | follow p => cases p <;> exact ⟨settings, hrules, hagent, haddress, himage⟩
  | entry i e he => exact ⟨settings, rulesInRange_set hrules i he, hagent, haddress, himage⟩
  | table rs hrs => exact ⟨settings, hrs, hagent, haddress, himage⟩
  | agent a ha => exact ⟨settings, hrules, ha, nofun, himage⟩
  | setAgent a tie ha =>
    have range := (AgentSettings.inRange_iff _).mp ha
    have old := (AgentSettings.inRange_iff _).mp hagent
    refine ⟨settings, hrules, (AgentSettings.inRange_iff _).mpr ⟨old.1, range.2⟩, ?_, himage⟩
    rintro pa ⟨⟩
    exact ha
  | await a tie ha =>
    refine ⟨settings, hrules, hagent, ?_, himage⟩
    rintro pa ⟨⟩
    exact ha
  | settle pa hpa => exact ⟨settings, hrules, haddress pa hpa, nofun, himage⟩
  | forget => exact ⟨settings, hrules, hagent, nofun, himage⟩
  | capture x agent ports trunk rules =>
    refine ⟨settings, hrules, hagent, haddress, ?_⟩
    rintro y ⟨⟩
    exact captured agent ports trunk rules
  | release => exact ⟨settings, hrules, hagent, haddress, by simp⟩
  | wipe => exact ⟨settings, rulesInRange_empty, by decide, nofun, by simp [Setup.wiped]⟩
  | _ => exact ⟨settings, hrules, hagent, haddress, himage⟩

end Sys2Proof.Machine
end

section
/-! SUPPORT. The operations that leave the configuration as it is, one equation for each. -/

namespace Sys2Proof

theorem PerPort.map_set {α β : Type} (f : α → β) (m : PerPort α) (p : Port) (x : α) :
    (m.set p x).map f = (m.map f).set p (f x) := by
  cases p with
  | trunk => rfl
  | seg sg => cases sg <;> rfl

theorem PerSeg.map_set {α β : Type} (f : α → β) (m : PerSeg α) (sg : Seg) (x : α) :
    (m.set sg x).map f = (m.map f).set sg (f x) := by
  cases sg <;> rfl

end Sys2Proof

namespace Sys2Proof.Machine

theorem State.withPort_setup (s : State) (p : Port) (x : PortState) :
    (s.withPort p x).setup =
      { s.setup with ports := s.setup.ports.set p x.setup, trunkEnabled := ((s.withPort p x).port .trunk).enabled } := by
  simp only [State.setup, State.withPort, PerPort.map_set]

/-- A change of a port that leaves the trunk enabled, or not, as it was. -/
theorem State.withPort_setup_records {s : State} {p : Port} {x : PortState} (ht : p = .trunk → x.enabled = (s.port p).enabled) :
    (s.withPort p x).setup = { s.setup with ports := s.setup.ports.set p x.setup } := by
  have trunk : ((s.withPort p x).port .trunk).enabled = (s.port .trunk).enabled := by
    by_cases hp : Port.trunk = p
    · subst hp; simpa using ht rfl
    · simp [hp]
  rw [State.withPort_setup, trunk]
  rfl

/-- A change of a port beside its records. -/
theorem State.withPort_setup_same {s : State} {p : Port} {x : PortState} (h : x.setup = (s.port p).setup)
    (ht : p = .trunk → x.enabled = (s.port p).enabled) : (s.withPort p x).setup = s.setup := by
  rw [State.withPort_setup_records ht, h, ← State.setup_ports, PerPort.set_get_self]

theorem State.withSeg_setup (s : State) (sg : Seg) (x : SegState) :
    (s.withSeg sg x).setup = { s.setup with inUse := s.setup.inUse.set sg x.slot.inUse } := by
  simp only [State.setup, State.withSeg, PerSeg.map_set]
  rfl

/-- A change of a segment that leaves its slot in use, or out of use, as it was. -/
theorem State.withSeg_setup_same {s : State} {sg : Seg} {x : SegState} (h : x.slot.inUse = (s.seg sg).slot.inUse) :
    (s.withSeg sg x).setup = s.setup := by
  rw [State.withSeg_setup, h, ← State.setup_inUse, PerSeg.set_get_self]

@[simp] theorem State.withPool_setup (s : State) (x : Pool) : (s.withPool x).setup = s.setup := rfl
@[simp] theorem State.withAlert_setup (s : State) (x : AlertUnit) : (s.withAlert x).setup = s.setup := rfl
@[simp] theorem State.withAlertLane_setup (s : State) (x : Option (List Byte)) : (s.withAlertLane x).setup = s.setup := rfl
@[simp] theorem State.withRx_setup (s : State) (p : Port) (x : Receiver) : (s.withRx p x).setup = s.setup :=
  State.withPort_setup_same rfl fun _ => rfl
@[simp] theorem State.withTx_setup (s : State) (p : Port) (x : Transmitter) : (s.withTx p x).setup = s.setup :=
  State.withPort_setup_same rfl fun _ => rfl
@[simp] theorem State.withQueue_setup (s : State) (p : Port) (x : TxQueue) : (s.withQueue p x).setup = s.setup :=
  State.withPort_setup_same rfl fun _ => rfl
@[simp] theorem State.withLane_setup (s : State) (p : Port) (x : Option Reply) : (s.withLane p x).setup = s.setup :=
  State.withPort_setup_same rfl fun _ => rfl
@[simp] theorem State.withGuard_setup (s : State) (p : Port) (x : Option Nat) : (s.withGuard p x).setup = s.setup :=
  State.withPort_setup_same rfl fun _ => rfl
@[simp] theorem State.withSnapshot_setup (s : State) (p : Port) (x : Option Snapshot) :
    (s.withSnapshot p x).setup = s.setup := State.withPort_setup_same rfl fun _ => rfl
@[simp] theorem State.count_setup (s : State) (p : Port) (k : PortCounter) : (s.count p k).setup = s.setup :=
  State.withPort_setup_same rfl fun _ => rfl
@[simp] theorem State.countExchange_setup (s : State) (sg : Seg) (k : ExchangeCounter) :
    (s.countExchange sg k).setup = s.setup := State.withSeg_setup_same rfl

theorem Slot.inUse_of_ne {sl : Slot} (h : sl ≠ .outOfUse) : sl.inUse = true := decide_eq_true h

/-- A slot in use that goes to another state of a slot in use, among changes that leave the configuration as it was. -/
theorem State.withSlot_setup {s u : State} {sg : Seg} {x : Slot} (hu : u.setup = s.setup) (h : (s.seg sg).slot ≠ .outOfUse)
    (hx : x ≠ .outOfUse) : (u.withSlot sg x).setup = s.setup := by
  have hs : (u.seg sg).slot.inUse = (s.seg sg).slot.inUse := by rw [← State.setup_inUse, hu, State.setup_inUse]
  exact (State.withSeg_setup_same (by rw [hs, Slot.inUse_of_ne h, Slot.inUse_of_ne hx])).trans hu

theorem State.withAgent_setup {s : State} {a : Agent} (hset : a.settings = s.agent.settings)
    (hpend : a.pendingAddress = s.agent.pendingAddress) : (s.withAgent a).setup = s.setup := by
  simp only [State.setup, State.withAgent, hset, hpend, State.port]

@[simp] theorem State.countIf_setup (s : State) (c : Bool) (p : Port) (k : PortCounter) :
    (s.countIf c p k).setup = s.setup := by
  cases c <;> simp [State.countIf]

@[simp] theorem State.dropRef_setup (s : State) (b : Nat) : (s.dropRef b).setup = s.setup := rfl

@[simp] theorem State.dropRef?_setup (s : State) (b : Option Nat) : (s.dropRef? b).setup = s.setup := by cases b <;> rfl

@[simp] theorem State.dropRefs_setup (s : State) (bs : List Nat) : (s.dropRefs bs).setup = s.setup := by
  induction bs generalizing s with
  | nil => rfl
  | cons b bs ih => exact ih _

theorem State.foldl_setup {α : Type} {f : State → α → State} (hf : ∀ s a, (f s a).setup = State.setup s) (l : List α)
    (s : State) : (l.foldl f s).setup = s.setup := by
  induction l generalizing s with
  | nil => rfl
  | cons a l ih => exact (ih _).trans (hf s a)

/-! ### Alerts, snapshots, queues, notices -/

@[simp] theorem State.raiseCause_setup (s : State) (k : Cause) : (s.raiseCause k).setup = s.setup := by
  unfold State.raiseCause; split <;> rfl

@[simp] theorem State.formAlert_setup (s : State) : s.formAlert.setup = s.setup := by
  unfold State.formAlert; split <;> rfl

@[simp] theorem State.placeCurrentAlert_setup (s : State) : s.placeCurrentAlert.setup = s.setup := by
  unfold State.placeCurrentAlert; split <;> rfl

@[simp] theorem State.reportTrunkManagement_setup (s : State) : s.reportTrunkManagement.setup = s.setup := by
  unfold State.reportTrunkManagement; split <;> simp

@[simp] theorem State.offerSnapshot_setup (s : State) (p : Port) (k : SnapshotKind) (t : Stamp) (n : Nat) (bs : List Byte) :
    (s.offerSnapshot p k t n bs).setup = s.setup := by
  unfold State.offerSnapshot; split <;> simp

@[simp] theorem State.enqueue_setup (s : State) (p : Port) (b : Nat) (k : DescriptorKind) (pr : Priority) :
    (s.enqueue p b k pr).setup = s.setup := s.withQueue_setup _ _

@[simp] theorem State.buildNotice_setup (s : State) (n : NoticeRequest) : (s.buildNotice n).setup = s.setup := by
  unfold State.buildNotice
  split
  · simp
  · dsimp only
    split <;> simp

@[simp] theorem State.noticeIf_setup (s : State) (f : Bool) (n : NoticeRequest) : (s.noticeIf f n).setup = s.setup := by
  cases f <;> simp [State.noticeIf]

/-! ### Exchanges -/

theorem State.scheduleRetry_setup {s : State} {sg : Seg} (h : (s.seg sg).slot ≠ .outOfUse) (r : ExchangeRecord) :
    (s.scheduleRetry sg r).setup = s.setup := State.withSlot_setup (by simp) h nofun

theorem State.exchangeFailed_setup {s : State} {sg : Seg} (h : (s.seg sg).slot ≠ .outOfUse) (r : ExchangeRecord) :
    (s.exchangeFailed sg r).setup = s.setup := State.withSlot_setup (by simp) h nofun

theorem State.failAttempt_setup {s : State} {sg : Seg} (h : (s.seg sg).slot ≠ .outOfUse) (r : ExchangeRecord) :
    (s.failAttempt sg r).setup = s.setup := by
  unfold State.failAttempt
  split
  · exact State.scheduleRetry_setup h r
  · exact State.exchangeFailed_setup h r

theorem State.attemptTimedOut_setup {s : State} {sg : Seg} (h : (s.seg sg).slot ≠ .outOfUse) (r : ExchangeRecord) :
    (s.attemptTimedOut sg r).setup = s.setup :=
  (State.failAttempt_setup (by simpa using h) _).trans (s.countExchange_setup sg _)

theorem State.attemptBadReply_setup {s : State} {sg : Seg} (h : (s.seg sg).slot ≠ .outOfUse) (r : ExchangeRecord) :
    (s.attemptBadReply sg r).setup = s.setup :=
  (State.failAttempt_setup (by simpa using h) _).trans (s.countExchange_setup sg _)

@[simp] theorem State.offerAnswerFrame_setup (s : State) (sg : Seg) (r : ExchangeRecord) (b : Nat) :
    (s.offerAnswerFrame sg r b).setup = s.setup := by
  unfold State.offerAnswerFrame; split <;> simp

theorem State.exchangeReplied_setup {s : State} {sg : Seg} (h : (s.seg sg).slot ≠ .outOfUse) (r : ExchangeRecord) (b : Nat) :
    (s.exchangeReplied sg r b).setup = s.setup := State.withSlot_setup (by simp) h nofun

@[simp] theorem State.reportArrival_setup (s : State) (p : Port) : (s.reportArrival p).setup = s.setup := by
  unfold State.reportArrival
  split
  · rfl
  · split
    · rename_i h
      exact State.withSlot_setup rfl (by simp [h]) nofun
    · rfl

@[simp] theorem State.reportDiscardEnd_setup (s : State) (p : Port) : (s.reportDiscardEnd p).setup = s.setup := by
  unfold State.reportDiscardEnd
  split
  · rfl
  · split
    · rename_i h
      exact State.attemptBadReply_setup (by simp [h]) _
    · rfl

@[simp] theorem State.cancelExchange_setup (s : State) (sg : Seg) : (s.cancelExchange sg).setup = s.setup := by
  unfold State.cancelExchange
  split
  · rfl
  · rename_i h
    split
    · exact State.withSlot_setup rfl h nofun
    · exact State.withSlot_setup (by simp) h nofun

/-! ### Classification and dispatch -/

@[simp] theorem State.forwardTo_setup (s : State) (src : Port) (b : Nat) (pr : Priority) (q : Port) :
    (s.forwardTo src b pr q).setup = s.setup := by
  unfold State.forwardTo; split <;> simp

@[simp] theorem State.dispatchForward_setup (s : State) (src : Port) (b : Nat) (ts : PortSet) (pr : Priority) :
    (s.dispatchForward src b ts pr).setup = s.setup :=
  State.foldl_setup (f := fun s p => s.forwardTo src b pr p) (fun s p => s.forwardTo_setup src b pr p) _ s

@[simp] theorem State.dispatchExchange_setup (s : State) (src : Port) (b i : Nat) (sg : Seg) (pr : Priority) (n : Nat)
    (f : Bool) : (s.dispatchExchange src b i sg pr n f).setup = s.setup := by
  unfold State.dispatchExchange
  dsimp only
  split
  · split <;> simp
  · simp

@[simp] theorem State.dispatch_setup (s : State) (src : Port) (b i : Nat) (a : Action) :
    (s.dispatch src b i a).setup = s.setup := by
  cases a <;> simp [State.dispatch]

/-- The first match stands in the table at the index it is given with (R47). -/
theorem firstMatch_getElem? {table : List (Option Entry)} {src : Port} {frame : List Byte} {n i : Nat} {e : Entry}
    (h : firstMatch table src frame n = some (i, e)) : n ≤ i ∧ table[i - n]? = some (some e) := by
  induction table generalizing n with
  | nil => nomatch h
  | cons d rest ih =>
    have later (h : firstMatch rest src frame (n + 1) = some (i, e)) : n ≤ i ∧ (d :: rest)[i - n]? = some (some e) := by
      obtain ⟨hle, hget⟩ := ih h
      refine ⟨by omega, ?_⟩
      rwa [show i - n = (i - (n + 1)) + 1 by omega, List.getElem?_cons_succ]
    cases d with
    | none => exact later h
    | some x =>
      unfold firstMatch at h
      split at h
      · cases h
        simp
      · exact later h

/-- A hit count is no part of what is written (R49). -/
theorem writtenRules_set_hits {rules : List (Option Entry)} {i : Nat} {e : Entry} (h : rules[i]? = some (some e)) (n : Count) :
    writtenRules (rules.set i (some { e with hits := n })) = writtenRules rules := by
  refine List.ext_getElem? fun j => ?_
  simp only [writtenRules, List.getElem?_map, List.getElem?_set]
  split
  · rename_i hij
    subst hij
    obtain ⟨hlt, hget⟩ := List.getElem?_eq_some_iff.mp h
    simp [hlt, hget]
  · rfl

@[simp] theorem State.classify_setup (s : State) (src : Port) (b : Nat) : (s.classify src b).setup = s.setup := by
  unfold State.classify
  split
  · simp
  · rename_i i e h
    have hits : writtenRules (s.rules.set i (some { e with hits := e.hits.bump })) = writtenRules s.rules :=
      writtenRules_set_hits (firstMatch_getElem? h).2 e.hits.bump
    rw [State.dispatch_setup]
    simp only [State.setup, State.withRules, hits, State.port]

/-! ### Reception -/

@[simp] theorem State.countErrors_setup (s : State) (p : Port) (e : ErrorSet) : (s.countErrors p e).setup = s.setup := by
  simp [State.countErrors]

@[simp] theorem State.dropOrFailAttempt_setup (s : State) (p : Port) (b : Nat) :
    (s.dropOrFailAttempt p b).setup = s.setup := by
  unfold State.dropOrFailAttempt
  split
  · rfl
  · split
    · rename_i h
      exact State.attemptBadReply_setup (s := s.dropRef b) (by simp [State.dropRef, h]) _
    · rfl

@[simp] theorem State.routeErrored_setup (s : State) (p : Port) (b : Nat) (e : ErrorSet) (t : Stamp) :
    (s.routeErrored p b e t).setup = s.setup := by
  simp [State.routeErrored]

@[simp] theorem State.joinInput_setup (s : State) (p : Port) (b : Nat) : (s.joinInput p b).setup = s.setup := by
  unfold State.joinInput
  split
  · exact State.withAgent_setup rfl rfl
  · simp

@[simp] theorem State.takeManagementFrame_setup (s : State) (p : Port) (b : Nat) :
    (s.takeManagementFrame p b).setup = s.setup := by
  cases p <;> simp [State.takeManagementFrame, State.reportManagement]

@[simp] theorem State.routeOrdinary_setup (s : State) (p : Port) (b : Nat) : (s.routeOrdinary p b).setup = s.setup := by
  unfold State.routeOrdinary; split <;> simp

theorem State.judgeAnswer_setup {s : State} {sg : Seg} (h : (s.seg sg).slot ≠ .outOfUse) (r : ExchangeRecord) (b : Nat) :
    (s.judgeAnswer sg r b).setup = s.setup := by
  unfold State.judgeAnswer
  split
  · exact State.exchangeReplied_setup h r b
  · exact State.attemptBadReply_setup (s := s.dropRef b) h r

@[simp] theorem State.judgeLate_setup (s : State) (sg : Seg) (r : ExchangeRecord) (b : Nat) :
    (s.judgeLate sg r b).setup = s.setup := by
  unfold State.judgeLate; split <;> simp

@[simp] theorem State.routeClean_setup (s : State) (p : Port) (b : Nat) : (s.routeClean p b).setup = s.setup := by
  unfold State.routeClean
  split
  · simp
  · split
    · rename_i h
      exact State.judgeAnswer_setup (by simp [h]) _ b
    · simp
    · simp

@[simp] theorem State.complete_setup (s : State) (p : Port) (f : Assembly) : (s.complete p f).setup = s.setup := by
  unfold State.complete
  dsimp only
  split <;> simp

@[simp] theorem State.guardFromCharacter_setup (s : State) (p : Port) (t : Nat) :
    (s.guardFromCharacter p t).setup = s.setup := by
  cases p <;> simp [State.guardFromCharacter]

@[simp] theorem State.assemble_setup (s : State) (p : Port) (f : Assembly) (d : Byte) (a b : Bool) (t : Nat) :
    (s.assemble p f d a b t).setup = s.setup := by
  unfold State.assemble; split <;> simp

@[simp] theorem State.takeCharacter_setup (s : State) (p : Port) (d : Byte) (a b : Bool) (t : Nat) :
    (s.takeCharacter p d a b t).setup = s.setup := by
  unfold State.takeCharacter; split <;> simp

@[simp] theorem State.receive_setup (s : State) (p : Port) (d : Byte) (a b : Bool) : (s.receive p d a b).setup = s.setup := by
  unfold State.receive
  dsimp only
  split
  · rfl
  · split <;> simp

@[simp] theorem State.releaseHeld_setup (s : State) (p : Port) : (s.releaseHeld p).setup = s.setup := by
  unfold State.releaseHeld; split <;> simp

@[simp] theorem State.storeBreakByte_setup (s : State) (f : Assembly) : (s.storeBreakByte f).setup = s.setup := by
  unfold State.storeBreakByte; split <;> simp

@[simp] theorem State.lineHigh_setup (s : State) (p : Port) : (s.lineHigh p).setup = s.setup := by
  unfold State.lineHigh; split <;> simp

/-! ### Transmission and timers -/

@[simp] theorem State.startSending_setup (s : State) (p : Port) (c : Current) : (s.startSending p c).setup = s.setup :=
  State.withPort_setup_same rfl fun _ => rfl

@[simp] theorem State.abortSending_setup (s : State) (p : Port) : (s.abortSending p).setup = s.setup := by
  unfold State.abortSending; split <;> simp

@[simp] theorem State.flushQueue_setup (s : State) (p : Port) : (s.flushQueue p).setup = s.setup := by
  simp [State.flushQueue]

@[simp] theorem State.slotSettles_setup (s : State) (p : Port) : (s.slotSettles p).setup = s.setup := by
  unfold State.slotSettles
  split
  · rfl
  · split
    · rename_i h
      exact State.withSlot_setup rfl (by simp [h]) nofun
    · rfl

/-- The record of the attempt on a port stands in that segment's slot, in SENDING. -/
theorem State.attemptOn_some {s : State} {p : Port} {sg : Seg} {r : ExchangeRecord} (h : s.attemptOn p = some (sg, r)) :
    (s.seg sg).slot = .sendingExchange r := by
  unfold State.attemptOn at h
  split at h
  · nomatch h
  · split at h
    · rename_i hs
      cases h
      exact hs
    · nomatch h

theorem State.slotAwaits_setup {s : State} {sg : Seg} (h : (s.seg sg).slot ≠ .outOfUse) (r : ExchangeRecord) :
    (s.slotAwaits sg r).setup = s.setup := State.withSlot_setup rfl h nofun

@[simp] theorem State.finishDescriptor_setup (s : State) (p : Port) (d : Descriptor) :
    (s.finishDescriptor p d).setup = s.setup := by
  unfold State.finishDescriptor
  split
  · split
    · rename_i h
      exact State.slotAwaits_setup (by simp [State.attemptOn_some h]) _
    · rfl
  all_goals simp

@[simp] theorem State.finishRetry_setup (s : State) (p : Port) (b : Nat) : (s.finishRetry p b).setup = s.setup := by
  unfold State.finishRetry
  split
  · rename_i h
    exact State.slotAwaits_setup (s := s.dropRef b) (by simp [State.dropRef, State.attemptOn_some h]) _
  · rfl

@[simp] theorem State.finishAlert_setup (s : State) : s.finishAlert.setup = s.setup := by
  unfold State.finishAlert; split <;> simp

end Sys2Proof.Machine
end

section
/-! SUPPORT. What every command does to the configuration: a sequence of `Setup.Move`s. -/

namespace Sys2Proof.Machine

/-! ### Starts of transmissions and idle points -/

theorem State.setup_follow (s : State) (sg : Seg) :
    Setup.Move s.setup { s.setup with inUse := s.setup.inUse.set sg (s.segSettings sg).role.usesSlot } := by
  have move := Setup.Move.follow s.setup (.seg sg)
  rwa [State.setup_ports] at move

/-- Setting a FIELD segment's slot in use is the move of R87. -/
theorem State.withSlot_sets {s : State} {sg : Seg} {x : Slot} (h : x.inUse = (s.segSettings sg).role.usesSlot) :
    s.Sets (s.withSlot sg x) := by
  refine .of_move ?_
  rw [State.withSlot, State.withSeg_setup, h]
  exact s.setup_follow sg

theorem State.openExchange_sets {s : State} {sg : Seg} (h : (s.segSettings sg).role = .field) (d : Descriptor)
    (x : ExchangeParams) : s.Sets (s.openExchange sg d x) := by
  refine .of_move ?_
  rw [State.openExchange, State.countExchange_setup, State.withSeg_setup]
  have field : (Slot.sendingExchange (s.openedRecord sg d x)).inUse = (s.segSettings sg).role.usesSlot := by rw [h]; rfl
  rw [field]
  exact s.setup_follow sg

theorem State.reportTake_sets (s : State) (p : Port) (d : Descriptor) : s.Sets (s.reportTake p d) := by
  unfold State.reportTake
  split
  · exact .refl s
  · split
    · exact .refl s
    · rename_i hrole
      split
      · exact State.openExchange_sets hrole d _
      all_goals exact State.withSlot_sets (by rw [hrole]; rfl)

/-- A retry waits in the RESEND slot of a FIELD segment (R78). -/
theorem State.retryWaiting_some {s : State} {p : Port} {r : ExchangeRecord} (h : s.retryWaiting p = some r) :
    ∃ sg, p = .seg sg ∧ (s.segSettings sg).role = .field ∧ (s.seg sg).slot = .resend r := by
  unfold State.retryWaiting at h
  split at h
  · nomatch h
  · split at h
    · rename_i hrole hslot
      cases h
      exact ⟨_, rfl, hrole, hslot⟩
    · nomatch h

/-- The arbiter chooses a retry only where one waits (R78). -/
theorem State.choice_retry {s : State} {p : Port} {r : ExchangeRecord} (h : s.choice p = some (.retry r)) :
    s.retryWaiting p = some r := by
  unfold State.choice at h
  split at h
  · cases h
    assumption
  · split at h
    · nomatch h
    · split at h
      · nomatch h
      · unfold TxQueue.grant at h
        repeat' split at h
        all_goals nomatch h

theorem State.startRetry_setup {s : State} {sg : Seg} {r : ExchangeRecord} (h : (s.seg sg).slot ≠ .outOfUse) :
    (s.startRetry (.seg sg) r).setup = s.setup := by
  unfold State.startRetry
  split
  · rename_i e _
    cases e
    rw [State.startSending_setup]
    exact State.withSlot_setup rfl h nofun
  · rfl

theorem State.begin_sets {s : State} {p : Port} {c : Choice} (h : s.choice p = some c) : s.Sets (s.begin p c) := by
  cases c with
  | retry r =>
    obtain ⟨sg, rfl, _, hslot⟩ := State.retryWaiting_some (State.choice_retry h)
    exact .of_eq (State.startRetry_setup (by simp [hslot]))
  | reply => exact .of_eq (s.startSending_setup p _)
  | alert => exact .of_eq (s.startSending_setup p _)
  | take d rest => exact (State.Sets.of_eq (by simp)).trans (State.reportTake_sets _ p d)

theorem State.startPort_sets (s : State) (p : Port) : s.Sets (s.startPort p) := by
  have go : s.Sets
      (match s.choice p with
        | none => s
        | some c => if s.startCondition p then s.begin p c else s.withTx p { (s.port p).tx with state := .waiting }) := by
    split
    · exact .refl s
    · rename_i c hc
      split
      · exact State.begin_sets hc
      · exact .of_eq (s.withTx_setup p _)
  unfold State.startPort
  split
  · exact .refl s
  · exact .refl s
  · exact go
  · exact go

/-- A port whose record is set, its segment's slot set by the record's role. -/
theorem State.place_setup {s : State} {p : Port} {x : PortState} (hx : x.pendingSettings = none) :
    ((s.withPort p x).slotForRole p x.settings.role).setup =
      { s.setup.place p x.settings with trunkEnabled := ((s.withPort p x).port .trunk).enabled } := by
  have record : x.setup = ⟨x.settings, none⟩ := by rw [PortState.setup, hx]
  cases p with
  | trunk => rw [State.slotForRole, State.withPort_setup, record]; rfl
  | seg sg =>
    have role : (Slot.forRole x.settings.role).inUse = x.settings.role.usesSlot := by cases x.settings.role <;> rfl
    rw [State.slotForRole, State.withSlot, State.withSeg_setup, State.withPort_setup, record, role]
    rfl

/-- The same where Enabled is left as it was. -/
theorem State.place_setup_same {s : State} {p : Port} {x : PortState} (hx : x.pendingSettings = none)
    (he : p = .trunk → x.enabled = (s.port p).enabled) :
    ((s.withPort p x).slotForRole p x.settings.role).setup = s.setup.place p x.settings := by
  cases p with
  | trunk => rw [State.place_setup hx, State.withPort_port_self, he rfl]; rfl
  | seg sg => rw [State.place_setup hx, State.withPort_port_ne _ _ _ (by simp)]; rfl

theorem State.applyPending_sets (s : State) (p : Port) : s.Sets (s.applyPending p) := by
  unfold State.applyPending
  split
  · exact .refl s
  · rename_i st hst
    split
    · refine .of_move ?_
      rw [State.activateSettings, State.place_setup_same (x := { s.port p with settings := st, pendingSettings := none }) rfl
        (fun _ => rfl)]
      exact .adopt _ p st (.inr (by simpa [PortState.setup] using hst))
    · exact .refl s

theorem State.followUp_sets (s : State) : s.Sets s.followUp :=
  (State.foldl_sets State.startPort_sets Port.list s).trans (State.foldl_sets State.applyPending_sets Port.list _)

/-- What follows an event's own effects adds its own moves. -/
theorem State.Sets.followUp {s u : State} (h : s.Sets u) : s.Sets u.followUp := h.trans u.followUp_sets

theorem State.Sets.finish {s u : State} (h : s.Sets u) : s.Sets u.finish :=
  (h.trans (.of_eq u.formAlert_setup)).followUp

/-! ### Resets -/

theorem State.coldWipe_sets (s : State) (c : ResetCause) : s.Sets (s.coldWipe c) := .of_move (.wipe s.setup)

theorem State.withStore_setup (s : State) (x : Store) :
    (s.withStore x).setup = { s.setup with image := x.state.image } := rfl

/-- A change of the store after which no commit runs. -/
theorem State.release_sets {s : State} {x : Store} (h : x.state.image = none) : s.Sets (s.withStore x) := by
  refine .of_move ?_
  rw [State.withStore_setup, h]
  exact .release _

theorem State.beginStartup_sets (s : State) : s.Sets s.beginStartup := State.release_sets rfl

theorem State.coldReset_sets (s : State) : s.Sets s.coldReset := (s.coldWipe_sets _).trans (State.beginStartup_sets _)

theorem State.warmPort_sets (s : State) (p : Port) : s.Sets (s.warmPort p) := by
  refine (State.Sets.of_eq (s.abortSending_setup p)).trans (.of_move ?_)
  have move := Setup.Move.retract (s.abortSending p).setup p
  rw [State.setup_ports] at move
  rw [State.warmPort, State.withPort_setup_records]
  · exact move
  · exact fun _ => rfl

theorem State.warmSlot_sets (s : State) (sg : Seg) : s.Sets (s.warmSlot sg) := by
  have role (u : State) : u.Sets (u.withSlot sg (Slot.forRole (u.segSettings sg).role)) :=
    State.withSlot_sets (by cases (u.segSettings sg).role <;> rfl)
  unfold State.warmSlot
  dsimp only
  split
  · exact (State.Sets.of_eq (s.countExchange_setup sg _)).trans (role _)
  · exact role s

theorem State.warmReset_sets (s : State) : s.Sets s.warmReset := by
  refine (State.foldl_sets State.warmPort_sets Port.list s).trans
    ((State.foldl_sets State.warmSlot_sets Seg.list _).trans (State.Sets.trans (.of_move ?_) (State.beginStartup_sets _)))
  exact .forget _

theorem State.restart_sets (s : State) (f : RestartForm) : s.Sets (s.restart f) := by
  cases f with
  | cold => exact s.coldReset_sets
  | warm => exact s.warmReset_sets

theorem State.leaveReset_sets (s : State) : s.Sets s.leaveReset := by
  unfold State.leaveReset
  split
  · exact .refl s
  · exact s.beginStartup_sets

theorem State.supplyFalls_sets (s : State) : s.Sets s.supplyFalls := by
  unfold State.supplyFalls
  split
  · exact s.coldWipe_sets .supply
  · exact s.coldWipe_sets .supply
  · exact .refl s
  · exact .refl s

theorem State.supplyReleases_sets (s : State) : s.Sets s.supplyReleases := by
  have released : s.Sets ({ s with supply := .ok }).leaveReset :=
    (State.Sets.of_eq (s := s) (t := { s with supply := .ok }) rfl).trans (State.leaveReset_sets _)
  unfold State.supplyReleases
  split
  · exact released
  · exact released
  · exact .refl s
  · exact .refl s

theorem State.pinFalls_sets (s : State) : s.Sets s.pinFalls := by
  unfold State.pinFalls
  split
  · exact s.coldWipe_sets .pin
  · exact s.coldWipe_sets .pin
  · exact s.coldWipe_sets .pin
  · exact .refl s

theorem State.pinRises_sets (s : State) : s.Sets s.pinRises := by
  unfold State.pinRises
  split
  · exact (State.Sets.of_eq (s := s) (t := { s with pinHeld := false }) rfl).trans (State.leaveReset_sets _)
  · exact .refl s

/-! ### The agent -/

theorem State.settleAddress_sets (s : State) (id : Nat) : s.Sets (s.settleAddress id) := by
  unfold State.settleAddress
  split
  · exact .refl s
  · rename_i pa hpa
    split
    · exact .of_move (.settle s.setup pa hpa)
    · exact .refl s

theorem State.settleReply_sets (s : State) (r : Reply) : s.Sets (s.settleReply r) := by
  unfold State.settleReply
  split
  · exact s.settleAddress_sets _
  · exact (s.settleAddress_sets _).trans (State.restart_sets _ _)

@[simp] theorem State.numberReply_setup (s : State) : s.numberReply.setup = s.setup := rfl

theorem State.offerReply_sets (s : State) (p : Port) (r : Reply) : s.Sets (s.offerReply p r) := by
  unfold State.offerReply
  split
  · exact s.settleReply_sets r
  · split
    · exact .of_eq (s.withLane_setup p _)
    · exact .of_eq rfl

theorem State.answer_sets (s : State) (rq : Request) (o : CommandOutcome) (bs : List Byte) (f : Option RestartForm) :
    s.Sets (s.answer rq o bs f) := (State.Sets.of_eq s.numberReply_setup).trans (State.offerReply_sets _ _ _)

/-- An answer after other moves. -/
theorem State.Sets.answerPlain {s u : State} (h : s.Sets u) (rq : Request) (o : CommandOutcome) : s.Sets (u.answerPlain rq o) :=
  h.trans (u.answer_sets rq o [] none)

theorem State.laneFree_setup (s : State) (p : Port) : (s.laneFree p).setup = s.setup := by
  unfold State.laneFree
  split
  · exact State.withLane_setup _ _ _
  · split
    · rfl
    · split
      · exact State.withLane_setup _ _ _
      · rfl

theorem State.offerDeferred_sets (s : State) (o : CommandOutcome) : s.Sets (s.offerDeferred o) := by
  unfold State.offerDeferred
  split
  · exact .refl s
  · dsimp only
    split
    · refine State.Sets.trans ?_ (State.settleReply_sets _ _)
      exact .of_eq rfl
    · split
      · exact .of_eq (State.withLane_setup _ _ _)
      · exact .of_eq rfl

theorem State.loseDeferred_sets (s : State) (p : Port) : s.Sets (s.loseDeferred p) := by
  unfold State.loseDeferred
  split
  · exact .refl s
  · split
    · exact .refl s
    · split
      · refine State.Sets.trans ?_ (State.settleAddress_sets _ _)
        exact .of_eq rfl
      · exact .refl s

theorem State.finishReply_sets (s : State) (p : Port) : s.Sets (s.finishReply p) := by
  unfold State.finishReply
  split
  · exact .refl s
  · split
    · exact (State.Sets.of_eq (s.withLane_setup p none)).trans (State.restart_sets _ _)
    · exact ((State.Sets.of_eq (s.withLane_setup p none)).trans (State.settleAddress_sets _ _)).trans
        (.of_eq (State.laneFree_setup _ p))

/-! ### Line, send end and timers -/

theorem State.arriveIdle_sets (s : State) (p : Port) : s.Sets (s.arriveIdle p) := by
  unfold State.arriveIdle
  dsimp only
  split
  · exact .of_eq (by simp)
  · exact (State.Sets.of_eq (by simp)).finish

theorem State.arrive_sets (s : State) (p : Port) : s.Sets (s.arrive p) := by
  unfold State.arrive
  dsimp only
  split
  · exact .refl s
  · split
    · exact .refl s
    · exact .refl s
    · exact s.arriveIdle_sets p
    all_goals exact .of_eq (s.withRx_setup p _)

theorem State.declareBreak_sets (s : State) (p : Port) : s.Sets (s.declareBreak p) := by
  unfold State.declareBreak
  split
  · exact .refl s
  · split
    · exact .refl s
    · exact .refl s
    · exact .refl s
    · exact (State.Sets.of_eq (by simp)).finish
    · exact (State.Sets.of_eq (by simp)).finish
    all_goals exact .of_eq (s.withRx_setup p _)

theorem State.gapExpires_sets (s : State) (p : Port) : s.Sets (s.gapExpires p) := by
  unfold State.gapExpires
  split
  · split
    · exact .refl s
    · exact .refl s
    · exact .refl s
    all_goals exact (State.Sets.of_eq (by simp)).finish
  · exact .refl s

theorem State.guardExpires_sets (s : State) (sg : Seg) (edgeInside : Bool) : s.Sets (s.guardExpires sg edgeInside) := by
  unfold State.guardExpires
  split
  · exact .refl s
  · exact .refl s
  all_goals
    split
    · exact .of_eq (s.withGuard_setup _ _)
    · unfold State.guardRunsOut
      refine State.Sets.followUp (.of_eq ?_)
      exact State.withPort_setup_same rfl fun _ => rfl

theorem State.finishCurrent_sets (s : State) (p : Port) (c : Current) : s.Sets (s.finishCurrent p c) := by
  cases c with
  | descriptor d => exact .of_eq (s.finishDescriptor_setup p d)
  | retry b => exact .of_eq (s.finishRetry_setup p b)
  | reply => exact s.finishReply_sets p
  | alert => exact .of_eq s.finishAlert_setup

theorem PortState.afterSend_setup (x : PortState) (p : Port) (t : Nat) :
    (x.afterSend p t).setup = x.setup ∧ (x.afterSend p t).enabled = x.enabled := by
  unfold PortState.afterSend
  split
  · exact ⟨rfl, rfl⟩
  · split <;> exact ⟨rfl, rfl⟩

theorem State.sendEnds_sets (s : State) (p : Port) : s.Sets (s.sendEnds p) := by
  unfold State.sendEnds
  split
  · exact .refl s
  · exact .refl s
  · exact .refl s
  · obtain ⟨hrecord, henabled⟩ := (s.port p).afterSend_setup p s.now
    have ended : s.Sets ((s.withPort p ((s.port p).afterSend p s.now)).count p .txframes) :=
      .of_eq (by rw [State.count_setup, State.withPort_setup_same hrecord fun _ => henabled])
    exact (ended.trans (State.finishCurrent_sets _ p _)).followUp

theorem State.responseExpires_sets (s : State) (sg : Seg) : s.Sets (s.responseExpires sg) := by
  unfold State.responseExpires
  split
  · rename_i h
    exact (State.Sets.of_eq (State.attemptTimedOut_setup (by simp [h]) _)).finish
  · exact .refl s

theorem State.lapseExpires_sets (s : State) (sg : Seg) : s.Sets (s.lapseExpires sg) := by
  unfold State.lapseExpires
  split
  · rename_i r _ h
    have resumed : (if r.retryPending then Slot.resend r else .free) ≠ .outOfUse := by split <;> simp
    exact (State.Sets.of_eq (State.withSlot_setup rfl (by simp [h]) resumed)).followUp
  · exact .refl s

theorem State.settleExpires_sets (s : State) (sg : Seg) : s.Sets (s.settleExpires sg) := by
  unfold State.settleExpires
  split
  · rename_i h
    exact (State.Sets.of_eq (State.withSlot_setup rfl (by simp [h]) (by simp))).followUp
  · exact .refl s

theorem State.repeatExpires_sets (s : State) : s.Sets s.repeatExpires := by
  unfold State.repeatExpires
  split
  · split
    · exact (State.Sets.of_eq (by simp)).followUp
    · exact .of_eq rfl
  · exact .refl s

/-! ### The store's completions -/

theorem State.endCommit_sets (s : State) (j : CommitJob) (w : List (Nat × Byte)) : s.Sets (s.endCommit j w) :=
  State.release_sets rfl

theorem State.commitCompletes_sets (s : State) (w : List (Nat × Byte)) : s.Sets (s.commitCompletes w) := by
  unfold State.commitCompletes
  split
  · split
    · exact ((s.endCommit_sets _ _).trans (State.offerDeferred_sets _ _)).followUp
    · exact (((s.endCommit_sets _ _).trans (State.offerDeferred_sets _ _)).trans (.of_eq (State.raiseCause_setup _ _))).finish
  all_goals exact .refl s

/-- A record that has passed the checks of R3 is placed as pending. -/
theorem State.withPendingSettings_sets {p : Port} {st : Settings} (h : st.inRange p = true) (s : State) :
    s.Sets (s.withPendingSettings p (some st)) := by
  refine .of_move ?_
  have move := Setup.Move.offer s.setup p st h
  rw [State.setup_ports] at move
  rw [State.withPendingSettings, State.withPort_setup_records]
  · exact move
  · exact fun _ => rfl

/-- The rule table replaced by one read from a profile, every hit count 0 (R60 to R62). -/
theorem State.freshTable_sets (s : State) {rs : List (Option Rule)} (h : rulesInRange rs) : s.Sets (s.withRules (freshTable rs)) := by
  refine .of_move ?_
  have written : writtenRules (freshTable rs) = rs := by
    simp [writtenRules, freshTable, Function.comp_def]
  have setup : (s.withRules (freshTable rs)).setup = { s.setup with rules := rs } := by
    rw [← congrArg (fun r => ({ s.setup with rules := r } : Setup)) written]
    rfl
  rw [setup]
  exact .table _ rs h

theorem State.applyLoad_sets {pr : Profile} (h : pr.inRange = true) (s : State) : s.Sets (s.applyLoad pr) := by
  obtain ⟨hagent, hports, hrules⟩ := Profile.inRange_iff.mp h
  have idle : s.Sets (s.withStore { s.store with state := .idle }) := State.release_sets rfl
  have settings (u : State) : u.Sets (u.awaitSettings pr.agent) := .of_move (.await u.setup pr.agent _ hagent)
  have records (u : State) : u.Sets (u.placeRecords pr.ports) :=
    State.foldl_sets (fun v p => v.withPendingSettings_sets (PortRecord.inRange_iff.mp (hports p)).1) _ u
  exact ((((idle.trans (settings _)).trans (State.offerDeferred_sets _ _)).trans (State.freshTable_sets _ hrules)).trans
    (records _)).followUp

theorem State.loadCompletes_sets (s : State) : s.Sets s.loadCompletes := by
  unfold State.loadCompletes
  split
  · exact s.applyLoad_sets (s.store.profileOf_inRange _)
  all_goals exact .refl s

/-- A record placed on a port and the port set by it, where the trunk ends enabled (R18, R185). -/
theorem State.place_sets {s : State} {p : Port} {x : PortState} (hx : x.pendingSettings = none)
    (move : Setup.Move s.setup (s.setup.place p x.settings)) (ht : p = .trunk → x.enabled = true) :
    s.Sets ((s.withPort p x).slotForRole p x.settings.role) := by
  cases p with
  | trunk =>
    have up : ((s.withPort .trunk x).port .trunk).enabled = true := by simpa using ht rfl
    rw [State.Sets, State.place_setup hx, up]
    exact .tail (.single move) (.trunkUp _)
  | seg sg =>
    rw [State.Sets, State.place_setup_same hx (by simp)]
    exact .single move

theorem State.bringUp_sets {p : Port} {r : PortRecord} (h : r.inRange p = true) (s : State) : s.Sets (s.bringUp p r) := by
  obtain ⟨hset, htrunk⟩ := PortRecord.inRange_iff.mp h
  exact State.place_sets rfl (.install s.setup p r.settings hset) htrunk

theorem State.applyStartup_sets {pr : Profile} (h : pr.inRange = true) (s : State) : s.Sets (s.applyStartup pr) := by
  obtain ⟨hagent, hports, hrules⟩ := Profile.inRange_iff.mp h
  have settings (u : State) : u.Sets (u.withAgent { u.agent with settings := pr.agent, pendingAddress := none }) :=
    .of_move (.agent u.setup pr.agent hagent)
  have alerted (u : State) : u.Sets (u.raiseCause .restarted).formAlert := .of_eq (by simp)
  have records (u : State) : u.Sets (Port.list.foldl (fun s p => s.bringUp p (pr.ports.get p)) u) :=
    State.foldl_sets (fun v p => v.bringUp_sets (hports p)) _ u
  have idle (u : State) : u.Sets (u.withStore { u.store with state := .idle }) := State.release_sets rfl
  exact ((((s.freshTable_sets hrules).trans (settings _)).trans (alerted _)).trans (records _)).trans (idle _)

theorem State.startupCompletes_sets (s : State) : s.Sets s.startupCompletes := by
  unfold State.startupCompletes
  split
  · exact (State.applyStartup_sets (s.store.profileOf_inRange _) s).followUp
  all_goals exact .refl s

/-! ### Management -/

theorem State.enablePort_sets (s : State) (p : Port) : s.Sets (s.enablePort p) := by
  unfold State.enablePort
  dsimp only
  split
  · exact .refl s
  · refine State.place_sets rfl (.adopt s.setup p _ ?_) fun _ => rfl
    rw [State.setup_ports, PortState.setup]
    cases (s.port p).pendingSettings with
    | none => exact .inl rfl
    | some st => exact .inr rfl

theorem State.settleLost_sets (s : State) (r : Option Reply) : s.Sets (s.settleLost r) := by
  cases r with
  | none => exact .refl s
  | some r => exact s.settleAddress_sets r.id

theorem State.receiverOff_setup (s : State) (sg : Seg) : (s.receiverOff (.seg sg)).setup = s.setup := by
  rw [State.receiverOff, State.dropRef?_setup, State.withPort_setup_same]
  · rfl
  · exact fun h => absurd h (by simp)

theorem State.disableSegment_sets (s : State) (sg : Seg) : s.Sets (s.disableSegment sg) := by
  unfold State.disableSegment
  split
  · have stopped : s.Sets (((s.receiverOff (.seg sg)).abortSending (.seg sg)).flushQueue (.seg sg)) :=
      .of_eq (by simp [State.receiverOff_setup])
    exact ((stopped.trans (State.settleLost_sets _ _)).trans (State.loseDeferred_sets _ _)).trans
      (.of_eq (State.cancelExchange_setup _ sg))
  · exact .refl s

theorem State.restartIf_sets (s : State) (f : Option RestartForm) : s.Sets (s.restartIf f) := by
  cases f with
  | none => exact .refl s
  | some f => exact s.restart_sets f

@[simp] theorem State.zeroPort_setup (s : State) (p : Port) : (s.zeroPort p).setup = s.setup := by
  have ports : (s.withPort p { s.port p with counters := PortCounters.zero }).setup = s.setup :=
    State.withPort_setup_same rfl fun _ => rfl
  cases p with
  | trunk => exact ports
  | seg sg =>
    rw [State.zeroPort, State.withSeg_setup_same]
    · exact ports
    · rfl

@[simp] theorem State.clearWatermark_setup (s : State) : s.clearWatermark.setup = s.setup := rfl

theorem writtenRules_zeroHits (rules : List (Option Entry)) : writtenRules (zeroHits rules) = writtenRules rules := by
  simp only [writtenRules, zeroHits, List.map_map]
  refine List.map_congr_left fun e _ => ?_
  cases e <;> rfl

@[simp] theorem State.acknowledge_setup (s : State) : s.acknowledge.setup = s.setup := State.formAlert_setup _

theorem State.beginCommit_sets (s : State) : s.Sets s.beginCommit := by
  refine .of_move (.capture s.setup s.capturedProfile rfl (fun p => ?_) rfl rfl)
  rw [State.setup_ports]
  exact congrArg PortRecord.settings (PerPort.get_map PortState.captured s.ports p)

/-- A command that passes its checks is carried out; any other is answered (R122). -/
theorem State.checked_sets {α : Type} {s : State} {rq : Request} {k : Permit} {read : List Byte → Option α} {act : α → State}
    (h : ∀ x, read rq.body = some x → s.Sets (act x)) : s.Sets (s.checked rq k read act) := by
  unfold State.checked
  split
  · split
    · exact (State.Sets.refl s).answerPlain rq _
    · rename_i x hx
      exact h x hx
  · exact (State.Sets.refl s).answerPlain rq _

section
variable (rq : Request) (s : State)

/-- A command that only reads answers and does nothing else. -/
theorem reading_sets {α : Type} (k : Permit) (read : List Byte → Option α) (body : α → List Byte) (f : Option RestartForm) :
    s.Sets (s.checked rq k read fun x => s.answer rq .done (body x) f) :=
  State.checked_sets fun _ _ => s.answer_sets rq _ _ f

theorem doSetPort_sets : s.Sets (doSetPort rq s) := by
  refine State.checked_sets fun x hx => ?_
  have range : x.2.inRange x.1 = true := by
    unfold portSettings? at hx
    split at hx
    · obtain ⟨p, _, hp⟩ := Option.bind_eq_some_iff.mp hx
      obtain ⟨st, hst, rfl⟩ := Option.map_eq_some_iff.mp hp
      exact settings?_inRange hst
    · nomatch hx
  exact ((State.Sets.refl s).answerPlain rq _).trans (State.withPendingSettings_sets range _)

theorem doEnablePort_sets : s.Sets (doEnablePort rq s) :=
  State.checked_sets fun p _ => (s.enablePort_sets p).answerPlain rq _

theorem doDisablePort_sets : s.Sets (doDisablePort rq s) :=
  State.checked_sets fun sg _ => ((s.disableSegment_sets sg).answerPlain rq _).trans (State.restartIf_sets _ _)

theorem doReadRule_sets : s.Sets (doReadRule rq s) := by
  refine State.checked_sets fun i _ => ?_
  split
  · exact (State.Sets.refl s).answerPlain rq _
  · exact s.answer_sets rq _ _ _

/-- An entry written to the table, or deleted from it. -/
theorem State.setEntry_sets (i : Nat) {e : Option Entry} (h : ∀ x ∈ e, x.rule.inRange = true) :
    s.Sets (s.withRules (s.rules.set i e)) := by
  have written : (s.withRules (s.rules.set i e)).setup = { s.setup with rules := s.setup.rules.set i (e.map (·.rule)) } := by
    simp only [State.setup, State.withRules, writtenRules, List.map_set, State.port]
  refine .of_move ?_
  rw [written]
  refine .entry _ i _ fun r hr => ?_
  obtain ⟨x, hx, rfl⟩ := Option.map_eq_some_iff.mp hr
  exact h x hx

theorem doWriteRule_sets : s.Sets (doWriteRule rq s) := by
  refine State.checked_sets fun x hx => State.Sets.answerPlain (s.setEntry_sets x.1 ?_) rq _
  rintro e ⟨⟩
  unfold indexedRule? at hx
  split at hx
  · obtain ⟨i, _, hi⟩ := Option.bind_eq_some_iff.mp hx
    obtain ⟨r, hr, rfl⟩ := Option.map_eq_some_iff.mp hi
    exact rule?_inRange hr
  · nomatch hx

theorem doDeleteRule_sets : s.Sets (doDeleteRule rq s) := by
  refine State.checked_sets fun i _ => ?_
  split
  · exact (State.Sets.refl s).answerPlain rq _
  · exact (s.setEntry_sets i (by simp)).answerPlain rq _

theorem doClearPort_sets : s.Sets (doClearPort rq s) :=
  State.checked_sets fun p _ => State.Sets.answerPlain (.of_eq ((State.clearWatermark_setup _).trans (s.zeroPort_setup p))) rq _

theorem doClearAll_sets : s.Sets (doClearAll rq s) :=
  State.checked_sets fun _ _ =>
    State.Sets.answerPlain
      (.of_eq ((State.clearWatermark_setup _).trans (State.foldl_setup State.zeroPort_setup Port.list s))) rq _

theorem doClearHits_sets : s.Sets (doClearHits rq s) := by
  refine State.checked_sets fun _ _ => State.Sets.answerPlain (.of_eq ?_) rq _
  rw [State.clearWatermark_setup]
  simp only [State.setup, State.withRules, writtenRules_zeroHits, State.port]

theorem doTakeSnapshot_sets : s.Sets (doTakeSnapshot rq s) := by
  refine State.checked_sets fun p _ => ?_
  split
  · exact (State.Sets.refl s).answerPlain rq _
  · exact (State.Sets.of_eq (s.withSnapshot_setup p none)).trans (State.answer_sets _ rq _ _ _)

theorem doAckAlert_sets : s.Sets (doAckAlert rq s) := by
  refine State.checked_sets fun q _ => ?_
  split
  · exact (State.Sets.refl s).answerPlain rq _
  · split
    · exact (State.Sets.of_eq s.acknowledge_setup).answerPlain rq _
    · exact (State.Sets.refl s).answerPlain rq _

theorem doSetAgent_sets : s.Sets (doSetAgent rq s) :=
  State.checked_sets fun a ha =>
    (State.Sets.of_move (.setAgent s.setup a s.agent.nextReply (agentSettings?_inRange ha))).answerPlain rq _

theorem doCommit_sets : s.Sets (doCommit rq s) :=
  State.checked_sets fun _ _ => (State.Sets.of_eq (s := s) (t := s.formDeferred rq) rfl).trans (State.beginCommit_sets _)

theorem doLoad_sets : s.Sets (doLoad rq s) := by
  refine State.checked_sets fun _ _ => ?_
  split
  · exact (State.Sets.refl s).answerPlain rq _
  · exact (State.Sets.of_eq (s := s) (t := s.formDeferred rq) rfl).trans (State.release_sets rfl)

end

/-! ### Every command -/

theorem State.takeCommand_sets (s : State) (i : Instr) {f : Request → State → State} (h : ∀ rq s, State.Sets s (f rq s)) :
    s.Sets (s.takeCommand i f) := by
  have taken (e : InputEntry) : s.Sets (s.afterTake e) := .of_eq rfl
  unfold State.takeCommand
  split
  · split
    · exact .refl s
    · split
      · exact ((taken _).trans (.of_eq (State.count_setup _ _ _))).followUp
      · exact ((taken _).trans (h _ _)).followUp
  · exact .refl s

theorem State.whenClocked_sets {s : State} {f : State → State} (h : s.Sets (f s)) : s.Sets (s.whenClocked f) := by
  unfold State.whenClocked
  split
  · exact h
  · exact .refl s

/-- Whatever a command does to the configuration is a sequence of moves. -/
theorem exec_sets {c : Instr} {s t : State} (h : exec c s = .next t) : s.Sets t := by
  cases c with
  | commitCompletion w =>
    simp only [exec, execCommitCompletion] at h
    split at h
    · injection h with h; subst h; exact State.whenClocked_sets (s.commitCompletes_sets w)
    · nomatch h
  | characterArrival p => injection h with h; subst h; exact State.whenClocked_sets (s.arrive_sets p)
  | characterReceived p d a b => injection h with h; subst h; exact State.whenClocked_sets (.of_eq (s.receive_setup p d a b))
  | heldCharacterReleased p => injection h with h; subst h; exact State.whenClocked_sets (.of_eq (s.releaseHeld_setup p))
  | breakDeclared p => injection h with h; subst h; exact State.whenClocked_sets (s.declareBreak_sets p)
  | gapTimerExpiry p => injection h with h; subst h; exact State.whenClocked_sets (s.gapExpires_sets p)
  | turnaroundGuardExpiry sg e => injection h with h; subst h; exact State.whenClocked_sets (s.guardExpires_sets sg e)
  | sendEnd p => injection h with h; subst h; exact State.whenClocked_sets (s.sendEnds_sets p)
  | responseTimerExpiry sg => injection h with h; subst h; exact State.whenClocked_sets (s.responseExpires_sets sg)
  | lapseTimerExpiry sg => injection h with h; subst h; exact State.whenClocked_sets (s.lapseExpires_sets sg)
  | settleTimerExpiry sg => injection h with h; subst h; exact State.whenClocked_sets (s.settleExpires_sets sg)
  | repeatTimerExpiry => injection h with h; subst h; exact State.whenClocked_sets s.repeatExpires_sets
  | loadCompletion => injection h with h; subst h; exact State.whenClocked_sets s.loadCompletes_sets
  | startupLoadCompletion => injection h with h; subst h; exact State.whenClocked_sets s.startupCompletes_sets
  | lineReturnsHighAfterBreak p => injection h with h; subst h; exact State.whenClocked_sets (.of_eq (s.lineHigh_setup p))
  | powerReset => injection h with h; subst h; exact s.coldWipe_sets .power
  | supplyReset => injection h with h; subst h; exact s.supplyFalls_sets
  | supplyRelease => injection h with h; subst h; exact s.supplyReleases_sets
  | pinReset => injection h with h; subst h; exact s.pinFalls_sets
  | pinResetEnd => injection h with h; subst h; exact s.pinRises_sets
  | vddFallsBelow1V2 => injection h with h; subst h; exact s.coldWipe_sets .power
  | clkinStops => injection h with h; subst h; exact .refl s
  | clkinReturns => injection h with h; subst h; exact .refl s
  | identify => injection h with h; subst h; exact s.takeCommand_sets _ fun rq s => reading_sets rq s _ _ _ _
  | unknownCommand =>
    injection h with h; subst h; exact s.takeCommand_sets _ fun rq s => (State.Sets.refl s).answerPlain rq _
  | readStatus => injection h with h; subst h; exact s.takeCommand_sets _ fun rq s => reading_sets rq s _ _ _ _
  | readPort => injection h with h; subst h; exact s.takeCommand_sets _ fun rq s => reading_sets rq s _ _ _ _
  | setPort => injection h with h; subst h; exact s.takeCommand_sets _ doSetPort_sets
  | enablePort => injection h with h; subst h; exact s.takeCommand_sets _ doEnablePort_sets
  | disablePort => injection h with h; subst h; exact s.takeCommand_sets _ doDisablePort_sets
  | readRule => injection h with h; subst h; exact s.takeCommand_sets _ doReadRule_sets
  | writeRule => injection h with h; subst h; exact s.takeCommand_sets _ doWriteRule_sets
  | deleteRule => injection h with h; subst h; exact s.takeCommand_sets _ doDeleteRule_sets
  | readHits => injection h with h; subst h; exact s.takeCommand_sets _ fun rq s => reading_sets rq s _ _ _ _
  | readCounters => injection h with h; subst h; exact s.takeCommand_sets _ fun rq s => reading_sets rq s _ _ _ _
  | clearCountersPort => injection h with h; subst h; exact s.takeCommand_sets _ doClearPort_sets
  | clearCountersAll => injection h with h; subst h; exact s.takeCommand_sets _ doClearAll_sets
  | clearCountersHits => injection h with h; subst h; exact s.takeCommand_sets _ doClearHits_sets
  | readExchange => injection h with h; subst h; exact s.takeCommand_sets _ fun rq s => reading_sets rq s _ _ _ _
  | takeSnapshot => injection h with h; subst h; exact s.takeCommand_sets _ doTakeSnapshot_sets
  | ackAlert => injection h with h; subst h; exact s.takeCommand_sets _ doAckAlert_sets
  | setAgent => injection h with h; subst h; exact s.takeCommand_sets _ doSetAgent_sets
  | commit => injection h with h; subst h; exact s.takeCommand_sets _ doCommit_sets
  | load => injection h with h; subst h; exact s.takeCommand_sets _ doLoad_sets
  | readStore => injection h with h; subst h; exact s.takeCommand_sets _ fun rq s => reading_sets rq s _ _ _ _
  | restartCold => injection h with h; subst h; exact s.takeCommand_sets _ fun rq s => reading_sets rq s _ _ _ _
  | restartWarm => injection h with h; subst h; exact s.takeCommand_sets _ fun rq s => reading_sets rq s _ _ _ _

/-- Whatever a step does to the configuration is a sequence of moves. -/
theorem step_sets {s t : State} (h : step s = .next t) : s.Sets t := by
  obtain ⟨c, l, n, hexec⟩ | rfl := step_next h
  · exact (State.Sets.of_eq (s := s) (t := { s with pending := l, freeCount := n }) rfl).trans (exec_sets hexec)
  · obtain ⟨n, m, b, e⟩ := s.tick_moves_time
    exact .of_eq (by rw [e]; rfl)

/-- A law of the configuration that every move keeps is kept by every step. -/
theorem step_keeps {law : Setup → Prop} (hlaw : ∀ v w, Setup.Move v w → law v → law w) {s t : State} (hs : law s.setup)
    (h : step s = .next t) : law t.setup := by
  have path : Relation.ReflTransGen Setup.Move s.setup t.setup := step_sets h
  generalize t.setup = w at path
  induction path with
  | refl => exact hs
  | tail _ move ih => exact hlaw _ _ move ih

/-- Settles O56: each law of R1, R3, R18, R51, R87, R127, R143, R144 and R172 is kept by every move of the configuration. -/
theorem stepKeepsSettingsAndRoles : Obligations.StepKeepsSettingsAndRoles := by
  refine ⟨fun s t hset hroles h => ?_, fun s t hconfig h => ?_⟩
  · rw [State.settingsOk_iff] at hset ⊢
    rw [State.slotsFollowRoles_iff] at hroles ⊢
    exact ⟨step_keeps (fun _ _ => Setup.Move.settingsOk) hset h, step_keeps (fun _ _ => Setup.Move.slotsFollowRoles) hroles h⟩
  · rw [State.configOk_iff] at hconfig ⊢
    exact step_keeps (fun _ _ => Setup.Move.ok) hconfig h

end Sys2Proof.Machine
end

section
/-! SUPPORT. Which events are due: each kind of event comes from one place in `State.dueEvents`. -/

namespace Sys2Proof.Machine

@[simp] theorem mem_dueIf {b : Bool} {c d : Instr} : c ∈ dueIf b d ↔ c = d ∧ b = true := by
  cases b <;> simp [dueIf]

/-- The event is an expiry or an end that the part's own timers make. -/
def isTimed (c : Instr) : Bool :=
  match c with
  | .gapTimerExpiry _ | .breakDeclared _ | .sendEnd _ | .turnaroundGuardExpiry _ _ | .responseTimerExpiry _
  | .lapseTimerExpiry _ | .settleTimerExpiry _ | .repeatTimerExpiry => true
  | _ => false

/-- A row that the agent takes is no timed event. -/
theorem Request.row_isTimed (rq : Request) : isTimed rq.row = false := by
  unfold Request.row
  repeat' split
  all_goals rfl

theorem State.headCommand_eq_some {s : State} {c : Instr} :
    s.headCommand = some c ↔ s.agent.mode = .idle ∧ ∃ e rest, s.agent.input = e :: rest ∧ (s.requestOf e).row = c := by
  unfold State.headCommand
  split
  · rename_i e rest hmode hinput
    simp [hmode, hinput]
  · rename_i hno
    refine ⟨nofun, ?_⟩
    rintro ⟨hmode, e, rest, hinput, _⟩
    exact absurd hinput (hno e rest hmode)

@[simp] theorem State.mem_commandDue {s : State} {c : Instr} : c ∈ s.commandDue ↔ s.headCommand = some c := by
  unfold State.commandDue
  cases s.headCommand <;> simp [eq_comm]

theorem State.headCommand_isTimed {s : State} {c : Instr} (h : s.headCommand = some c) : isTimed c = false := by
  obtain ⟨_, e, _, _, rfl⟩ := State.headCommand_eq_some.mp h
  exact Request.row_isTimed _

/-- A slot's timer expiry is due by that slot's own state alone. -/
theorem State.mem_slotDue {s : State} {sg : Seg} {c : Instr} :
    c ∈ s.slotDue sg ↔
      (c = .responseTimerExpiry sg ∧ ∃ r due, (s.seg sg).slot = .awaiting r due ∧ due ≤ s.now) ∨
        (c = .lapseTimerExpiry sg ∧ ∃ r due, (s.seg sg).slot = .lapsed r due ∧ due ≤ s.now) ∨
        (c = .settleTimerExpiry sg ∧ ∃ due, (s.seg sg).slot = .settling due ∧ due ≤ s.now) := by
  unfold State.slotDue
  cases (s.seg sg).slot <;> simp [and_comm]

theorem State.fineDue_iff {s : State} {start : Option Nat} {n : Nat} :
    s.fineDue start n = true ↔ ∃ t, start = some t ∧ t + n ≤ s.now := by
  cases start <;> simp [State.fineDue]

theorem State.mem_portDue {s : State} {p : Port} {c : Instr} :
    c ∈ s.portDue p ↔
      (c = .gapTimerExpiry p ∧ ∃ t, (s.port p).rx.gapStart = some t ∧ t + (s.port p).settings.gapFine ≤ s.now) ∨
        (c = .breakDeclared p ∧ ∃ t, (s.port p).rx.heldSince = some t ∧ t + (s.port p).settings.characterFine ≤ s.now) ∨
        (c = .sendEnd p ∧ ∃ t, (s.port p).tx.state.sendingSince = some t ∧ t + s.sendFine p ≤ s.now) := by
  simp only [State.portDue, List.mem_append, mem_dueIf, State.fineDue_iff, or_assoc]

theorem State.mem_segDue {s : State} {sg : Seg} {c : Instr} :
    c ∈ s.segDue sg ↔
      (c = .turnaroundGuardExpiry sg false ∧ (s.port (.seg sg)).tx.state.sendingSince = none ∧
          ∃ t, (s.port (.seg sg)).guardFrom = some t ∧
            t + Config.finePerMicro * (s.port (.seg sg)).settings.guardMicros ≤ s.now) ∨ c ∈ s.slotDue sg := by
  simp only [State.segDue, List.mem_append, mem_dueIf, Bool.and_eq_true, Option.isNone_iff_eq_none, State.fineDue_iff]

/-- With CLKIN running, an event is due for a port, for a segment, for the alert unit or for the agent. -/
theorem State.mem_dueEvents {s : State} (h : s.clockRunning = true) {c : Instr} :
    c ∈ s.dueEvents ↔
      (∃ p, c ∈ s.portDue p) ∨ (∃ sg, c ∈ s.segDue sg) ∨ (c = .repeatTimerExpiry ∧ s.repeatIsDue = true) ∨
        s.headCommand = some c := by
  simp [State.dueEvents, h, Port.mem_list, Seg.mem_list]

theorem TxState.sendingSince_eq_none {tx : TxState} : tx.sendingSince = none ↔ ∀ cur since, tx ≠ .sending cur since := by
  cases tx <;> simp [TxState.sendingSince]

/-- While a port sends, the length of its frame in time is that of the frame's characters (R13). -/
theorem State.sendDue_iff {s : State} {p : Port} :
    (∃ t, (s.port p).tx.state.sendingSince = some t ∧ t + s.sendFine p ≤ s.now) ↔
      ∃ cur since, (s.port p).tx.state = .sending cur since ∧
        since + (s.currentBytes p cur).length * (s.port p).settings.characterFine ≤ s.now := by
  unfold State.sendFine
  cases (s.port p).tx.state <;> simp [TxState.sendingSince]

theorem State.repeatIsDue_iff {s : State} :
    s.repeatIsDue = true ↔ s.alert.state = .outstanding ∧ ∃ due, s.alert.repeatDue = some due ∧ due ≤ s.now := by
  unfold State.repeatIsDue
  cases s.alert.repeatDue <;> cases s.alert.state <;> simp

/-- A timed event is due for a port, a segment or the alert unit, and the agent's taking is never one. -/
theorem State.mem_dueEvents_timed {s : State} (h : s.clockRunning = true) {c : Instr} (hc : isTimed c = true) :
    c ∈ s.dueEvents ↔
      (∃ p, c ∈ s.portDue p) ∨ (∃ sg, c ∈ s.segDue sg) ∨ (c = .repeatTimerExpiry ∧ s.repeatIsDue = true) := by
  have taken : s.headCommand ≠ some c := fun e => by simp [State.headCommand_isTimed e] at hc
  simp [State.mem_dueEvents h, taken]

/-- A row of the agent's is due exactly when the agent would take it now. -/
theorem State.row_mem_dueEvents {s : State} (h : s.clockRunning = true) (rq : Request) :
    rq.row ∈ s.dueEvents ↔ s.headCommand = some rq.row := by
  have row := rq.row_isTimed
  rw [State.mem_dueEvents h]
  refine ⟨?_, fun e => .inr (.inr (.inr e))⟩
  rintro (⟨p, hp⟩ | ⟨sg, hsg⟩ | ⟨e, _⟩ | e)
  · rcases State.mem_portDue.mp hp with ⟨e, _⟩ | ⟨e, _⟩ | ⟨e, _⟩ <;> simp [e, isTimed] at row
  · rcases State.mem_segDue.mp hsg with ⟨e, _⟩ | hslot
    · simp [e, isTimed] at row
    · rcases State.mem_slotDue.mp hslot with ⟨e, _⟩ | ⟨e, _⟩ | ⟨e, _⟩ <;> simp [e, isTimed] at row
  · simp [e, isTimed] at row
  · exact e

/-- Settles O3: each event is looked up in the one list of `State.dueEvents` that holds events of its kind. -/
theorem timedEventsAreDueAtTheirTimes : Obligations.TimedEventsAreDueAtTheirTimes := by
  intro s hclock
  refine ⟨fun p => ?_, fun p => ?_, fun p => ?_, fun sg => ?_, fun sg => ?_, fun sg => ?_, fun sg => ?_, ?_, fun rq => ?_⟩
  · rw [State.mem_dueEvents_timed hclock rfl]
    simp [State.mem_portDue, State.mem_segDue, State.mem_slotDue, Settings.gapFine]
  · rw [State.mem_dueEvents_timed hclock rfl]
    simp [State.mem_portDue, State.mem_segDue, State.mem_slotDue, Receiver.heldSince]
  · rw [State.mem_dueEvents_timed hclock rfl, ← State.sendDue_iff]
    simp [State.mem_portDue, State.mem_segDue, State.mem_slotDue]
  · rw [State.mem_dueEvents_timed hclock rfl]
    simp [State.mem_portDue, State.mem_segDue, State.mem_slotDue]
  · rw [State.mem_dueEvents_timed hclock rfl]
    simp [State.mem_portDue, State.mem_segDue, State.mem_slotDue]
  · rw [State.mem_dueEvents_timed hclock rfl]
    simp [State.mem_portDue, State.mem_segDue, State.mem_slotDue]
  · rw [State.mem_dueEvents_timed hclock rfl, ← TxState.sendingSince_eq_none]
    simp [State.mem_portDue, State.mem_segDue, State.mem_slotDue]
  · rw [State.mem_dueEvents_timed hclock rfl, ← State.repeatIsDue_iff]
    simp [State.mem_portDue, State.mem_segDue, State.mem_slotDue]
  · rw [State.row_mem_dueEvents hclock, State.headCommand_eq_some]

end Sys2Proof.Machine
end

section
/-! SUPPORT. The resets from outside: what `State.coldWipe` leaves of each block, and which of them a part takes in which state of
its supply. -/

namespace Sys2Proof.Machine

/-- Every port of a wiped part is stopped with its factory record (R20, log 12). -/
theorem stoppedPorts_get (p : Port) : ∃ r, stoppedPorts.get p = PortState.stopped r := by
  cases p with
  | trunk => exact ⟨factoryTrunk, rfl⟩
  | seg sg => exact ⟨factorySegment, PerSeg.get_all _ sg⟩

section
variable (s : State) (k : ResetCause) (supply : Supply) (pinHeld : Bool)

/-- The part wiped by a reset of cause `k`, with these holds on it. -/
def State.wiped : State := { s.coldWipe k with supply := supply, pinHeld := pinHeld }

theorem State.wiped_port (p : Port) : ∃ r, (s.wiped k supply pinHeld).port p = PortState.stopped r := stoppedPorts_get p

@[simp] theorem State.wiped_seg (sg : Seg) : (s.wiped k supply pinHeld).seg sg = SegState.wiped := PerSeg.get_all _ sg

/-- Nothing in a wiped part holds a buffer (R41). -/
theorem State.wiped_holds : (s.wiped k supply pinHeld).holds = [] := rfl

theorem Pool.refCount_afresh (m : Pool) (w b : Nat) : (m.afresh w).refCount b = 0 := by
  simp only [Pool.refCount, Pool.afresh, List.getD_eq_getElem?_getD, List.getElem?_replicate]
  split <;> rfl

theorem PortCounters.get_zero (j : PortCounter) : PortCounters.zero.get j = 0#32 := by cases j <;> rfl

theorem ExchangeCounters.get_zero (j : ExchangeCounter) : ExchangeCounters.zero.get j = 0#32 := by cases j <;> rfl

/-- A wiped part is as a reset of a cold kind leaves it. -/
theorem State.wiped_coldResetOf : s.ColdResetOf (s.wiped k supply pinHeld) k where
  cause := rfl
  timeBase := ⟨rfl, rfl⟩
  counts b _ := Pool.refCount_afresh _ _ b
  free := rfl
  rules := rfl
  watermark := rfl
  bytes := rfl
  holders := s.wiped_holds k supply pinHeld
  stopped p := by
    obtain ⟨r, hr⟩ := s.wiped_port k supply pinHeld p
    rw [hr]
    exact ⟨rfl, rfl⟩
  outputs := by
    refine ⟨fun p => ?_, fun sg => ?_⟩
    · obtain ⟨r, hr⟩ := s.wiped_port k supply pinHeld p
      simp [State.txdLevel, hr, PortState.stopped, Transmitter.fresh]
    · obtain ⟨r, hr⟩ := s.wiped_port k supply pinHeld (.seg sg)
      simp [State.driverEnable, hr, PortState.stopped, Transmitter.fresh]
  ports p := by
    obtain ⟨r, hr⟩ := s.wiped_port k supply pinHeld p
    rw [hr]
    exact ⟨rfl, rfl, rfl, rfl, PortCounters.get_zero⟩
  segs sg := by
    refine ⟨by simp [SegState.wiped], ?_, fun j => ?_⟩
    · rw [State.slotRecord, State.wiped_seg]
      rfl
    · rw [State.wiped_seg]
      exact ExchangeCounters.get_zero j
  alert := ⟨rfl, rfl⟩
  agent := ⟨rfl, rfl, rfl, rfl⟩
  banks := ⟨rfl, rfl, rfl, rfl⟩
  abandoned := .inl rfl

/-! ### Which reset is taken when -/

theorem exec_powerReset : exec .powerReset s = .next (s.wiped .power .heldPower false) := rfl

theorem exec_supplyReset (h : s.supply = .ok ∨ s.supply = .heldSupply) :
    exec .supplyReset s = .next (s.wiped .supply .heldSupply s.pinHeld) := by
  show Host.Outcome.next s.supplyFalls = _
  unfold State.supplyFalls
  rcases h with h | h <;> rw [h] <;> rfl

theorem exec_supplyReset_ignored (h : s.supply = .heldPower ∨ s.supply = .lost) : exec .supplyReset s = .next s := by
  show Host.Outcome.next s.supplyFalls = _
  unfold State.supplyFalls
  rcases h with h | h <;> rw [h]

theorem exec_pinReset (h : s.supply ≠ .lost) : exec .pinReset s = .next (s.wiped .pin s.supply true) := by
  show Host.Outcome.next s.pinFalls = _
  unfold State.pinFalls
  split
  · rfl
  · rfl
  · rfl
  · rename_i e
    exact absurd e h

theorem exec_pinReset_ignored (h : s.supply = .lost) : exec .pinReset s = .next s := by
  show Host.Outcome.next s.pinFalls = _
  rw [State.pinFalls, h]

end

/-- Settles O6: each reset that is taken is the wipe with its cause and its holds. -/
theorem coldKindsWipeThePart : Obligations.ColdKindsWipeThePart := by
  intro s
  refine ⟨?_, fun h => ?_, exec_supplyReset_ignored s, fun h => ?_, exec_pinReset_ignored s, ?_⟩
  · exact ⟨_, exec_powerReset s, s.wiped_coldResetOf .power _ _, rfl, rfl, rfl, rfl⟩
  · exact ⟨_, exec_supplyReset s h, s.wiped_coldResetOf .supply _ _, rfl, rfl, rfl, rfl⟩
  · exact ⟨_, exec_pinReset s h, s.wiped_coldResetOf .pin _ _, rfl, rfl, rfl, rfl⟩
  · refine ⟨s.supplyLost, rfl, rfl, rfl, rfl, rfl, rfl, rfl, fun p => ?_, rfl⟩
    obtain ⟨r, hr⟩ := stoppedPorts_get p
    show (stoppedPorts.get p).tx.state = .off
    rw [hr]
    rfl

end Sys2Proof.Machine
end

section
/-! SUPPORT. Arrivals and characters: what `State.arrive`, `State.receive` and `State.takeCharacter` do in each state of the receiver,
written as record updates. -/

namespace Sys2Proof.Machine

/-! ### The line commands while CLKIN runs -/

theorem State.whenClocked_running {s : State} (h : s.clockRunning = true) (f : State → State) : s.whenClocked f = f s := if_pos h

section
variable {s : State} (h : s.clockRunning = true) (p : Port)
include h

theorem exec_characterArrival : exec (.characterArrival p) s = .next (s.arrive p) :=
  congrArg Host.Outcome.next (State.whenClocked_running h _)

theorem exec_characterReceived (data : Byte) (parityBit stopBit : Bool) :
    exec (.characterReceived p data parityBit stopBit) s = .next (s.receive p data parityBit stopBit) :=
  congrArg Host.Outcome.next (State.whenClocked_running h _)

theorem exec_heldCharacterReleased : exec (.heldCharacterReleased p) s = .next (s.releaseHeld p) :=
  congrArg Host.Outcome.next (State.whenClocked_running h _)

theorem exec_breakDeclared : exec (.breakDeclared p) s = .next (s.declareBreak p) :=
  congrArg Host.Outcome.next (State.whenClocked_running h _)

theorem exec_gapTimerExpiry : exec (.gapTimerExpiry p) s = .next (s.gapExpires p) :=
  congrArg Host.Outcome.next (State.whenClocked_running h _)

theorem exec_lineReturnsHighAfterBreak : exec (.lineReturnsHighAfterBreak p) s = .next (s.lineHigh p) :=
  congrArg Host.Outcome.next (State.whenClocked_running h _)

end

/-! ### Arrivals -/

section
variable {s : State} {p : Port}

/-- A held character or a declared break holds the line (log 29). -/
theorem State.lineHeld_iff :
    ((s.port p).rx.held.isSome || (s.port p).rx.lineLow) = true ↔ (s.port p).rx.held ≠ none ∨ (s.port p).rx.lineLow = true := by
  simp [Option.isSome_iff_ne_none]

theorem State.LineOpen.not_held (h : s.LineOpen p) : ((s.port p).rx.held.isSome || (s.port p).rx.lineLow) = false := by
  simp [h.held, h.line]

theorem State.arrive_held (h : (s.port p).rx.held ≠ none ∨ (s.port p).rx.lineLow = true) : s.arrive p = s := by
  rw [State.arrive, if_pos (State.lineHeld_iff.mpr h)]

theorem State.arrive_deaf (h : s.LineOpen p) (hrx : (s.port p).rx.state = .off ∨ (s.port p).rx.state = .muted) :
    s.arrive p = s := by
  rw [State.arrive, h.not_held]
  rcases hrx with hrx | hrx <;> simp [hrx]

/-- A receiver takes characters in ASSEMBLING and in DISCARDING (R8). -/
theorem RxState.takesCharacters_iff {st : RxState} :
    st.takesCharacters = true ↔ (∃ f, st = .assembling f) ∨ ∃ d, st = .discarding d := by
  cases st <;> simp [RxState.takesCharacters]

/-- In ASSEMBLING and DISCARDING an arrival stops the gap timer (R11). -/
theorem State.arrive_taking (h : s.LineOpen p) (hrx : (s.port p).rx.state.takesCharacters = true) :
    s.arrive p = s.withRx p { (s.port p).rx with gapStart := none } := by
  rw [State.arrive, h.not_held]
  rcases RxState.takesCharacters_iff.mp hrx with ⟨f, e⟩ | ⟨d, e⟩ <;> simp [e]

end

/-- Settles O11, by the three cases of `State.arrive` outside IDLE. -/
theorem arrivalOutsideIdleReservesNothing : Obligations.ArrivalOutsideIdleReservesNothing := by
  intro s p hclock
  rw [exec_characterArrival hclock]
  refine ⟨fun h hrx => ?_, fun h hrx => ?_, fun h => ?_⟩
  · rw [State.arrive_deaf h hrx]
  · rw [State.arrive_taking h hrx]
    rfl
  · rw [State.arrive_held h]

/-! ### Received characters -/

section
variable {s : State} {p : Port}

/-- A new receiver with the guard counting from the character's end, as one record update (R15). -/
theorem State.guardFromCharacter_withRx (s : State) (p : Port) (x : Receiver) (t : Nat) :
    (s.withRx p x).guardFromCharacter p t =
      s.withPort p { s.port p with rx := x, guardFrom := guardAfter p (s.port p).guardFrom t } := by
  cases p with
  | trunk => rfl
  | seg sg =>
    simp only [State.guardFromCharacter, State.withGuard, State.withRx_port_self, guardAfter]
    simp only [State.withRx, State.withPort, PerPort.set_set]

/-- What a character that is thrown away makes of the discard it falls in, by the frame's new end: over length it moves the end of
the frame (R27), and the 257th of a frame begins such a discard. -/
inductive Discard.Follows (endStamp : Stamp) : RxState → Discard → Prop
  | last (f : Assembly) (h : 256 ≤ f.length) : Follows endStamp (.assembling f) (.overlength (f.overfull endStamp))
  | overlength (f : Assembly) : Follows endStamp (.discarding (.overlength f)) (.overlength (f.endedAt endStamp))
  | refused : Follows endStamp (.discarding .refused) .refused
  | broken : Follows endStamp (.discarding .broken) .broken

/-- A character taken below 256 bytes is stored with its faults, and its end is the frame's (R23, R26). -/
theorem State.takeCharacter_stored {f : Assembly} (hrx : (s.port p).rx.state = .assembling f) (hlen : f.length < 256)
    (data : Byte) (parity framing : Bool) (t : Nat) :
    s.takeCharacter p data parity framing t =
      (s.withPool (s.pool.store f.buffer f.length data)).withPort p
        { s.port p with
          rx := ⟨.assembling (f.extended parity framing (s.stampAt t)), none, false, some t⟩
          guardFrom := guardAfter p (s.port p).guardFrom t } := by
  simp only [State.takeCharacter, hrx, State.assemble]
  rw [if_pos (show f.length < Config.bufferBytes from hlen), State.guardFromCharacter_withRx]
  rfl

/-- A character that is thrown away starts the gap timer at its end, and does nothing else but to move an over-length frame's end
(R11, R27). -/
theorem State.takeCharacter_thrown {d : Discard} {t : Nat} (h : Discard.Follows (s.stampAt t) (s.port p).rx.state d) (data : Byte)
    (parity framing : Bool) :
    s.takeCharacter p data parity framing t =
      s.withPort p
        { s.port p with
          rx := ⟨.discarding d, none, false, some t⟩
          guardFrom := guardAfter p (s.port p).guardFrom t } := by
  generalize hst : (s.port p).rx.state = st at h
  cases h with
  | last f hlen =>
    simp only [State.takeCharacter, hst, State.assemble]
    rw [if_neg (show ¬ f.length < Config.bufferBytes from Nat.not_lt.mpr hlen), State.guardFromCharacter_withRx]
  | overlength f => simp only [State.takeCharacter, hst, State.guardFromCharacter_withRx]
  | refused => simp only [State.takeCharacter, hst, State.guardFromCharacter_withRx]
  | broken => simp only [State.takeCharacter, hst, State.guardFromCharacter_withRx]

/-- The four cases of a character that is thrown away, in the words of the statements. -/
theorem Discard.follows_of {st : RxState} {f : Assembly} {d : Discard} {e : Stamp}
    (h : st = .assembling f ∧ 256 ≤ f.length ∧
          d = .overlength { f with errors := { f.errors with overlength := true }, endStamp := e } ∨
        st = .discarding (.overlength f) ∧ d = .overlength { f with endStamp := e } ∨
        st = .discarding .refused ∧ d = .refused ∨ st = .discarding .broken ∧ d = .broken) : Discard.Follows e st d := by
  rcases h with ⟨rfl, hlen, rfl⟩ | ⟨rfl, rfl⟩ | ⟨rfl, rfl⟩ | ⟨rfl, rfl⟩
  · exact .last f hlen
  · exact .overlength f
  · exact .refused
  · exact .broken

theorem Discard.Follows.takesCharacters {e : Stamp} {st : RxState} {d : Discard} (h : Discard.Follows e st d) :
    st.takesCharacters = true := by
  cases h <;> rfl

/-- A character that is no zero of a break test reaches frame assembly with its faults (R8). -/
theorem State.receive_taken (h : s.LineOpen p) (hrx : (s.port p).rx.state.takesCharacters = true) {data : Byte} {stopBit : Bool}
    (hz : ¬(data = 0#8 ∧ stopBit = false)) (parityBit : Bool) :
    s.receive p data parityBit stopBit =
      s.takeCharacter p data (parityFault (s.port p).settings.parity data parityBit) (!stopBit)
        (s.characterEnd (s.port p).settings) := by
  simp only [State.receive, h.not_held, hrx]
  rw [if_neg (by simp), if_neg hz]

/-- A zero with a low stop bit is held for the break test, the gap timer stopped (R8, R9). -/
theorem State.receive_zero (h : s.LineOpen p) (hrx : (s.port p).rx.state.takesCharacters = true) (parityBit : Bool) :
    s.receive p 0#8 parityBit false =
      s.withRx p
        { (s.port p).rx with
          held := some ⟨parityFault (s.port p).settings.parity 0#8 parityBit, s.now⟩
          gapStart := none } := by
  simp only [State.receive, h.not_held, hrx]
  rw [if_neg (by simp), if_pos (by simp)]

/-- Over a held line, and where no character is in progress, the command changes nothing (log 29, log 30). -/
theorem State.receive_ignored
    (h : (s.port p).rx.held ≠ none ∨ (s.port p).rx.lineLow = true ∨ (s.port p).rx.state.takesCharacters = false) (data : Byte)
    (parityBit stopBit : Bool) : s.receive p data parityBit stopBit = s := by
  unfold State.receive
  dsimp only
  rw [if_pos]
  simpa [Option.isSome_iff_ne_none, or_assoc] using h

theorem State.takeCharacter_ignored (h : (s.port p).rx.state.takesCharacters = false) (data : Byte) (parity framing : Bool)
    (t : Nat) : s.takeCharacter p data parity framing t = s := by
  unfold State.takeCharacter
  split
  · rfl
  · rfl
  · rfl
  all_goals rename_i e; rw [e] at h; nomatch h

theorem State.releaseHeld_held {h : HeldChar} (hh : (s.port p).rx.held = some h) :
    s.releaseHeld p = s.takeCharacter p 0#8 h.parityFault true s.now := by
  rw [State.releaseHeld, hh]

theorem State.releaseHeld_ignored (h : (s.port p).rx.held = none ∨ (s.port p).rx.state.takesCharacters = false) :
    s.releaseHeld p = s := by
  unfold State.releaseHeld
  split
  · rfl
  · rename_i hheld
    exact State.takeCharacter_ignored (h.resolve_left (by simp [hheld])) _ _ _ _

theorem State.declareBreak_ignored (h : (s.port p).rx.held = none ∨ (s.port p).rx.state.takesCharacters = false) :
    s.declareBreak p = s := by
  unfold State.declareBreak
  split
  · rfl
  · rename_i hheld
    have idle := h.resolve_left (by simp [hheld])
    split
    · rfl
    · rfl
    · rfl
    all_goals rename_i e; rw [e] at idle; nomatch idle

theorem State.gapExpires_ignored (h : (s.port p).rx.gapStart = none ∨ (s.port p).rx.state.takesCharacters = false) :
    s.gapExpires p = s := by
  unfold State.gapExpires
  split
  · rename_i hgap
    have idle := h.resolve_left (Option.isSome_iff_ne_none.mp hgap)
    split
    · rfl
    · rfl
    · rfl
    all_goals rename_i e; rw [e] at idle; nomatch idle
  · rfl

theorem RxState.takesCharacters_false {st : RxState} (h : st ∈ [RxState.off, .idle, .muted]) : st.takesCharacters = false := by
  rcases List.mem_cons.mp h with rfl | h
  · rfl
  · rcases List.mem_cons.mp h with rfl | h
    · rfl
    · rw [List.mem_singleton.mp h]
      rfl

end

/-- Settles O12: what is stored, what is thrown away, and where nothing happens. -/
theorem characterIsStoredOrThrownAway : Obligations.CharacterIsStoredOrThrownAway := by
  refine ⟨fun s p f data parityBit stopBit h hrx hlen hz hram => ?_, fun s p f data parityBit stopBit d h hz hd => ?_,
    fun s p hclock => ?_⟩
  · have taking : (s.port p).rx.state.takesCharacters = true := by rw [hrx]; rfl
    refine ⟨s.pool.ram.write (256 * f.buffer + f.length) data, ?_, Memory.wf_write hram _ _, ?_, fun a ha => ?_⟩
    · rw [exec_characterReceived h.clock, State.receive_taken h taking hz, State.takeCharacter_stored hrx hlen]
      rfl
    · rw [Memory.read_write hram, if_pos rfl]
    · rw [Memory.read_write hram, if_neg ha]
  · have follows := Discard.follows_of hd
    rw [exec_characterReceived h.clock, State.receive_taken h follows.takesCharacters hz, State.takeCharacter_thrown follows]
    rfl
  · simp only [exec_characterReceived hclock, exec_heldCharacterReleased hclock, exec_breakDeclared hclock,
      exec_gapTimerExpiry hclock]
    refine ⟨fun h data a b => ?_, fun h => ?_, fun h => ?_, fun h => ?_⟩
    · rw [State.receive_ignored (h.imp_right .inl)]
    · rw [State.releaseHeld_ignored (.inl h), State.declareBreak_ignored (.inl h)]
      exact ⟨rfl, rfl⟩
    · rw [State.gapExpires_ignored (.inl h)]
    · have idle := RxState.takesCharacters_false h
      rw [State.releaseHeld_ignored (.inr idle), State.declareBreak_ignored (.inr idle), State.gapExpires_ignored (.inr idle)]
      exact ⟨fun data a b => by rw [State.receive_ignored (.inr (.inr idle))], rfl, rfl, rfl⟩

/-- Settles O13: the zero is held, and at its release it is a character like any other that ends now. -/
theorem zeroCharacterIsHeldThenReceived : Obligations.ZeroCharacterIsHeldThenReceived := by
  refine ⟨fun s p parityBit h hrx => ?_, fun s p h f hclock hheld => ⟨fun hrx hlen => ?_, fun d hd => ?_⟩⟩
  · rw [exec_characterReceived h.clock, State.receive_zero h hrx]
    rfl
  · rw [exec_heldCharacterReleased hclock, State.releaseHeld_held hheld, State.takeCharacter_stored hrx hlen]
    simp only [Assembly.extended, ErrorSet.addFaults, Bool.or_true]
    rfl
  · rw [exec_heldCharacterReleased hclock, State.releaseHeld_held hheld, State.takeCharacter_thrown (Discard.follows_of hd)]
    rfl

end Sys2Proof.Machine
end

section
/-! SUPPORT. Causes that an event raises before its other effects: the operations that do not look at the alert unit commute with the
raising, so that every cause can be gathered at the event's end (log 20). With them the end of a failed attempt (R102, R103) takes
the form `State.attemptEnds`. -/

namespace Sys2Proof.Machine

/-! ### Raising causes -/

/-- The causes `ks` raised one after another. -/
def State.raiseCauses (s : State) (ks : List Cause) : State := ks.foldl State.raiseCause s

theorem State.alerted_raiseCauses (s : State) (ks js : List Cause) : (s.raiseCauses ks).alerted js = s.alerted (ks ++ js) := by
  induction ks generalizing s with
  | nil => rfl
  | cons k ks ih => exact (ih _).trans (s.alerted_raiseCause k (ks ++ js))

theorem State.formAlert_raiseCauses (s : State) (ks : List Cause) : (s.raiseCauses ks).formAlert = s.alerted ks := by
  rw [← State.alerted_nil, State.alerted_raiseCauses, List.append_nil]

/-- An offer to a port's snapshot is the new record and its cause raised (R156, R157). -/
theorem State.offerSnapshot_eq (s : State) (p : Port) (kind : SnapshotKind) (t : Stamp) (n : Nat) (bytes : List Byte) :
    s.offerSnapshot p kind t n bytes =
      (s.withSnapshot p (snapshotAfter (s.port p).snapshot kind t n bytes)).raiseCauses (s.snapshotCause p) := by
  unfold State.offerSnapshot State.snapshotCause snapshotAfter
  cases (s.port p).snapshot <;> rfl

/-- An operation that neither reads nor writes the alert unit and leaves the agent alone. -/
structure State.IgnoresAlert (op : State → State) : Prop where
  commutes : ∀ s a, op (s.withAlert a) = (op s).withAlert a
  alert : ∀ s, (op s).alert = s.alert
  agent : ∀ s, (op s).agent = s.agent

theorem State.IgnoresAlert.raiseCause {op : State → State} (h : State.IgnoresAlert op) (s : State) (k : Cause) :
    op (s.raiseCause k) = (op s).raiseCause k := by
  unfold State.raiseCause
  rw [h.agent, h.alert]
  split
  · exact h.commutes s _
  · rfl

theorem State.IgnoresAlert.raiseCauses {op : State → State} (h : State.IgnoresAlert op) (s : State) (ks : List Cause) :
    op (s.raiseCauses ks) = (op s).raiseCauses ks := by
  induction ks generalizing s with
  | nil => rfl
  | cons k ks ih => exact (ih _).trans (by rw [h.raiseCause]; rfl)

theorem State.withSlot_ignoresAlert (sg : Seg) (x : Slot) : State.IgnoresAlert fun s => s.withSlot sg x :=
  ⟨fun _ _ => rfl, fun _ => rfl, fun _ => rfl⟩

theorem State.dropRef_ignoresAlert (b : Nat) : State.IgnoresAlert fun s => s.dropRef b :=
  ⟨fun _ _ => rfl, fun _ => rfl, fun _ => rfl⟩

/-! ### Notices -/

section
variable {s : State} {n : NoticeRequest}

theorem State.buildNotice_noBuffer (h : s.pool.reserve = none) : s.buildNotice n = s.count n.origin .noticelost := by
  rw [State.buildNotice, h]

theorem State.buildNotice_accepted {b : Nat} {m : Pool} (h : s.pool.reserve = some (b, m))
    (ha : s.offerAnswer n.origin = .accepted) :
    s.buildNotice n =
      (s.withPool (m.writeFrame b (noticeFrame s.agent.settings.address n))).enqueue n.origin b .notice .urgent := by
  have answer (x : Pool) : (s.withPool x).offerAnswer n.origin = .accepted := ha
  simp only [State.buildNotice, h, answer]

theorem State.buildNotice_refused {b : Nat} {m : Pool} (h : s.pool.reserve = some (b, m))
    (ha : s.offerAnswer n.origin ≠ .accepted) :
    s.buildNotice n =
      ((s.withPool (m.writeFrame b (noticeFrame s.agent.settings.address n))).dropRef b).count n.origin .noticelost := by
  have answer (x : Pool) : (s.withPool x).offerAnswer n.origin = s.offerAnswer n.origin := rfl
  simp only [State.buildNotice, h, answer]
  split
  · rename_i e
    exact absurd e ha
  · rfl
  · rfl

end

/-- Building a notice neither looks at the alert unit and the segments nor changes them. -/
theorem State.buildNotice_frame (s : State) (n : NoticeRequest) (a : AlertUnit) (segs : PerSeg SegState) :
    ({ s with alert := a, segs := segs }).buildNotice n = { s.buildNotice n with alert := a, segs := segs } := by
  cases h : s.pool.reserve with
  | none =>
    rw [State.buildNotice_noBuffer h, State.buildNotice_noBuffer (s := { s with alert := a, segs := segs }) h]
    rfl
  | some bm =>
    by_cases ha : s.offerAnswer n.origin = .accepted
    · rw [State.buildNotice_accepted h ha, State.buildNotice_accepted (s := { s with alert := a, segs := segs }) h ha]
      rfl
    · rw [State.buildNotice_refused h ha, State.buildNotice_refused (s := { s with alert := a, segs := segs }) h ha]
      rfl

theorem State.buildNotice_keeps (s : State) (n : NoticeRequest) :
    (s.buildNotice n).alert = s.alert ∧ (s.buildNotice n).segs = s.segs ∧ (s.buildNotice n).agent = s.agent := by
  cases h : s.pool.reserve with
  | none => rw [State.buildNotice_noBuffer h]; exact ⟨rfl, rfl, rfl⟩
  | some bm =>
    by_cases ha : s.offerAnswer n.origin = .accepted
    · rw [State.buildNotice_accepted h ha]; exact ⟨rfl, rfl, rfl⟩
    · rw [State.buildNotice_refused h ha]; exact ⟨rfl, rfl, rfl⟩

/-- The same of a notice that the flag may ask for. -/
theorem State.noticeIf_frame (s : State) (flag : Bool) (n : NoticeRequest) (a : AlertUnit) (segs : PerSeg SegState) :
    ({ s with alert := a, segs := segs }).noticeIf flag n = { s.noticeIf flag n with alert := a, segs := segs } := by
  cases flag with
  | false => rfl
  | true => exact s.buildNotice_frame n a segs

theorem State.noticeIf_keeps (s : State) (flag : Bool) (n : NoticeRequest) :
    (s.noticeIf flag n).alert = s.alert ∧ (s.noticeIf flag n).segs = s.segs ∧ (s.noticeIf flag n).agent = s.agent := by
  cases flag with
  | false => exact ⟨rfl, rfl, rfl⟩
  | true => exact s.buildNotice_keeps n

theorem State.noticeIf_ignoresAlert (flag : Bool) (n : NoticeRequest) : State.IgnoresAlert fun s => s.noticeIf flag n where
  commutes s a := by
    have segs := (s.noticeIf_keeps flag n).2.1
    calc (s.withAlert a).noticeIf flag n
      _ = { s.noticeIf flag n with alert := a, segs := s.segs } := s.noticeIf_frame flag n a s.segs
      _ = (s.noticeIf flag n).withAlert a := by rw [← segs]; rfl
  alert s := (s.noticeIf_keeps flag n).1
  agent s := (s.noticeIf_keeps flag n).2.2

/-- A slot may be set before the notice as well as after it. -/
theorem State.noticeIf_withSlot (s : State) (flag : Bool) (n : NoticeRequest) (sg : Seg) (x : Slot) :
    (s.noticeIf flag n).withSlot sg x = (s.withSlot sg x).noticeIf flag n := by
  obtain ⟨alert, segs, _⟩ := s.noticeIf_keeps flag n
  symm
  calc (s.withSlot sg x).noticeIf flag n
    _ = { s.noticeIf flag n with alert := s.alert, segs := s.segs.set sg { s.seg sg with slot := x } } :=
        s.noticeIf_frame flag n s.alert _
    _ = (s.noticeIf flag n).withSlot sg x := by
        rw [← alert, State.withSlot, State.withSeg, State.seg, State.seg, segs]

/-! ### Failed attempts -/

section
variable (s : State) (sg : Seg) (r : ExchangeRecord) (k : ExchangeCounter)

theorem State.retryScheduled_ignoresAlert : State.IgnoresAlert fun s => s.retryScheduled sg r k :=
  ⟨fun _ _ => rfl, fun _ => rfl, fun _ => rfl⟩

theorem State.exchangeLost_ignoresAlert (b : Nat) : State.IgnoresAlert fun s => s.exchangeLost sg r k b :=
  ⟨fun _ _ => rfl, fun _ => rfl, fun _ => rfl⟩

theorem State.scheduleRetry_countExchange : (s.countExchange sg k).scheduleRetry sg r = s.retryScheduled sg r k := by
  simp [State.scheduleRetry, State.retryScheduled, State.countExchange, State.withSlot, State.withSeg, State.seg,
    State.timerDue, State.segSettings, State.port]

/-- The notice about an exchange that has failed (R103, R113). -/
def ExchangeRecord.failedNotice : NoticeRequest := r.noticeRequest sg r.lastResult.reason

variable {b : Nat} (hb : r.buffer = some b)
include hb

/-- The outcome FAILED with its effects gathered: the slot set, then the notice, then the cause (R103). -/
theorem State.exchangeFailed_countExchange :
    (s.countExchange sg k).exchangeFailed sg r =
      ((s.exchangeLost sg r k b).noticeIf r.notice (r.failedNotice sg)).raiseCause .exchange := by
  have lost (due : Nat) : (((s.countExchange sg k).countExchange sg .failed).dropRef b).withSlot sg
      (.lapsed { r with buffer := none, retryPending := false } due) =
      { s with
        pool := s.pool.drop b
        segs := s.segs.set sg
          { s.seg sg with
            slot := .lapsed { r with buffer := none, retryPending := false } due
            counters := ((s.seg sg).counters.bump k).bump .failed } } := by
    simp [State.countExchange, State.withSlot, State.withSeg, State.seg, State.dropRef, State.withPool]
  rw [State.exchangeFailed, hb, (State.withSlot_ignoresAlert sg _).raiseCause, State.noticeIf_withSlot]
  exact congrArg (fun u : State => (u.noticeIf r.notice (r.failedNotice sg)).raiseCause .exchange) (lost _)

/-- An attempt that fails in an event that has raised the causes `ks` before, with the formation test at the event's end (R102,
R103, log 20). -/
theorem State.failAttempt_formAlert (ks : List Cause) :
    (((s.raiseCauses ks).countExchange sg k).failAttempt sg r).formAlert = s.attemptEnds sg r k b ks := by
  unfold State.failAttempt State.attemptEnds
  split
  · rw [State.scheduleRetry_countExchange, (State.retryScheduled_ignoresAlert sg r k).raiseCauses, State.formAlert_raiseCauses]
  · rw [State.exchangeFailed_countExchange _ _ _ _ hb, (State.exchangeLost_ignoresAlert sg r k b).raiseCauses,
      (State.noticeIf_ignoresAlert _ _).raiseCauses, State.formAlert_raiseCause, State.alerted_raiseCauses]
    rfl

end

/-! ### The end of a discard -/

theorem State.lineHigh_low {s : State} {p : Port} (h : (s.port p).rx.lineLow = true) :
    s.lineHigh p = s.withRx p { (s.port p).rx with lineLow := false, gapStart := some s.now } := if_pos h

theorem State.lineHigh_ignored {s : State} {p : Port} (h : (s.port p).rx.lineLow = false) : s.lineHigh p = s :=
  if_neg (by simp [h])

section
variable {s : State} {p : Port} (h : (s.port p).rx.gapStart ≠ none)
include h

theorem State.gapExpires_broken (hrx : (s.port p).rx.state = .discarding .broken) :
    s.gapExpires p = (s.withRx p (Receiver.fresh .idle)).finish := by
  rw [State.gapExpires, if_pos (Option.isSome_iff_ne_none.mpr h), hrx]

theorem State.gapExpires_refused (hrx : (s.port p).rx.state = .discarding .refused) :
    s.gapExpires p = ((s.withRx p (Receiver.fresh .idle)).reportDiscardEnd p).finish := by
  rw [State.gapExpires, if_pos (Option.isSome_iff_ne_none.mpr h), hrx]

end

theorem State.reportDiscardEnd_receiving {s : State} {sg : Seg} {r : ExchangeRecord} (h : (s.seg sg).slot = .receiving r) :
    s.reportDiscardEnd (.seg sg) = s.attemptBadReply sg r := by
  simp only [State.reportDiscardEnd, h]

theorem State.reportDiscardEnd_ignored {s : State} {p : Port} (h : ∀ sg, p = .seg sg → ∀ r, (s.seg sg).slot ≠ .receiving r) :
    s.reportDiscardEnd p = s := by
  unfold State.reportDiscardEnd
  split
  · rfl
  · split
    · rename_i sg _ r hr
      exact absurd hr (h sg rfl r)
    · rfl

/-- What an event answers that ends with the formation test: the state `u` it leaves, and what follows (log 20, log 21). -/
theorem State.answers_finish (v u : State) (hu : v.formAlert = u) :
    ∃ w : State, Host.Outcome.next (φ := Fault) (ρ := Refusal) v.finish = .next w.followUp ∧ w.StartsFrom w.followUp ∧ w = u :=
  ⟨v.formAlert, rfl, v.formAlert.followUp_startsFrom, hu⟩

/-- Settles O15: the expiry leaves a fresh IDLE receiver, and after a refused reservation the slot hears of it. -/
theorem gapTimerEndsADiscard : Obligations.GapTimerEndsADiscard := by
  refine ⟨fun s p hclock => ⟨fun h => ?_, fun h => ?_⟩, fun s v p hclock hgap hv => ⟨fun hrx => ?_, ?_⟩⟩
  · rw [exec_lineReturnsHighAfterBreak hclock, State.lineHigh_low h]
    rfl
  · rw [exec_lineReturnsHighAfterBreak hclock, State.lineHigh_ignored h]
  · subst hv
    rw [exec_gapTimerExpiry hclock]
    rcases hrx with hrx | ⟨hrx, hslot⟩
    · rw [State.gapExpires_broken hgap hrx]
      exact State.answers_finish _ _ (State.alerted_nil _).symm
    · rw [State.gapExpires_refused hgap hrx, State.reportDiscardEnd_ignored (s := s.withRx p _) hslot]
      exact State.answers_finish _ _ (State.alerted_nil _).symm
  · rintro sg r b rfl hrx hslot hb
    subst hv
    rw [exec_gapTimerExpiry hclock, State.gapExpires_refused hgap hrx,
      State.reportDiscardEnd_receiving (s := s.withRx (.seg sg) _) hslot]
    exact State.answers_finish _ _ (State.failAttempt_formAlert _ sg { r with lastResult := .badReply } .badreplies hb [])

end Sys2Proof.Machine
end

section
/-! SUPPORT. A declared break: the frame in assembly completes as an errored frame, whose effects are gathered into `State.errored`
(R28, R31) and, for an answer, into the end of the attempt (R100). -/

namespace Sys2Proof.Machine

/-! ### Errored frames -/

theorem State.withPort_self (s : State) (p : Port) : s.withPort p (s.port p) = s := by
  simp [State.withPort, State.port]

/-- A port set twice is set once. -/
@[simp] theorem State.withPort_withPort (s : State) (p : Port) (x y : PortState) :
    (s.withPort p x).withPort p y = s.withPort p y := by
  simp [State.withPort]

theorem State.countIf_eq (s : State) (c : Bool) (p : Port) (k : PortCounter) :
    s.countIf c p k = s.withPort p { s.port p with counters := (s.port p).counters.bumpIf c k } := by
  cases c with
  | true => rfl
  | false => exact (s.withPort_self p).symm

/-- The error kinds counted once each, as one update of the port's counters (R31). -/
theorem State.countErrors_eq (s : State) (p : Port) (e : ErrorSet) :
    s.countErrors p e = s.withPort p { s.port p with counters := (s.port p).counters.withErrors e } := by
  simp [State.countErrors, State.countIf_eq, PortCounters.withErrors]

/-- The frame in buffer `b` once its length has been noted (R28, log 28). -/
theorem Pool.frame_setLength {m : Pool} {b n : Nat} (h : b < m.lens.length) : (m.setLength b n).frame b = m.bytes b n := by
  simp [Pool.frame, Pool.bytes, Pool.setLength, h]

theorem State.snapshotCause_congr {s t : State} {p : Port} (h : (t.port p).snapshot = (s.port p).snapshot) :
    t.snapshotCause p = s.snapshotCause p := by
  rw [State.snapshotCause, h, State.snapshotCause]

section
variable {s : State} {p : Port} {rx : Receiver}

/-- An errored frame's counts and snapshot offer, then its causes (R28, R31, R156). -/
theorem State.errored_eq {b n : Nat} (h : b < s.pool.lens.length) (e : ErrorSet) (stamp : Stamp) {u : State}
    (hu : u = ((s.withRx p rx).withPool ((s.withRx p rx).pool.setLength b n)).count p .rxframes) :
    (u.countErrors p e).offerSnapshot p e.firstKind stamp (u.pool.frame b).length ((u.pool.frame b).take 8) =
      (s.errored p rx b n e stamp).raiseCauses (s.snapshotCause p) := by
  subst hu
  have frame : (s.pool.setLength b n).frame b = s.pool.bytes b n := Pool.frame_setLength h
  have length : (s.pool.bytes b n).length = n := Memory.length_readBytes _ _ _
  rw [State.offerSnapshot_eq, State.countErrors_eq, State.snapshotCause_congr (s := s)]
  · simp only [State.count_pool, State.withPool_pool, State.withRx_pool, frame, length]
    simp [State.errored, State.count, State.withRx, State.withSnapshot, State.withPort, State.withPool, State.port]
  · simp

/-- A frame that a break has ended is an errored frame, whatever its check says (R29, R31). -/
theorem State.complete_broken {g : Assembly} (hbrk : g.errors.brk = true) (h : g.buffer < s.pool.lens.length) :
    (s.withRx p rx).complete p g =
      ((s.errored p rx g.buffer g.length g.errors g.endStamp).raiseCauses (s.snapshotCause p)).dropOrFailAttempt p g.buffer := by
  have errors (u : State) (frame : List Byte) : u.completionErrors p g.errors frame = g.errors := by
    simp [State.completionErrors, hbrk]
  have errored : g.errors.isEmpty = false := by
    simp only [ErrorSet.isEmpty, beq_eq_false_iff_ne, ne_eq]
    intro e
    rw [e] at hbrk
    nomatch hbrk
  unfold State.complete
  dsimp only
  rw [errors, errored, if_neg (by simp), State.routeErrored, State.errored_eq h g.errors g.endStamp rfl]

end

/-! ### What becomes of the buffer -/

@[simp] theorem State.raiseCauses_segs (s : State) (ks : List Cause) : (s.raiseCauses ks).segs = s.segs := by
  induction ks generalizing s with
  | nil => rfl
  | cons k ks ih =>
    refine (ih _).trans ?_
    unfold State.raiseCause
    split <;> rfl

@[simp] theorem State.raiseCauses_seg (s : State) (ks : List Cause) (sg : Seg) : (s.raiseCauses ks).seg sg = s.seg sg := by
  rw [State.seg, State.raiseCauses_segs, State.seg]

/-- Where no slot waits for an answer the buffer is released, and the alert is formed of the event's causes (R31). -/
theorem State.dropOrFailAttempt_unjudged {w : State} {p : Port} (h : ∀ sg, p = .seg sg → ∀ r, (w.seg sg).slot ≠ .receiving r)
    (ks : List Cause) (b : Nat) : ((w.raiseCauses ks).dropOrFailAttempt p b).formAlert = (w.dropRef b).alerted ks := by
  have drop : (w.raiseCauses ks).dropOrFailAttempt p b = (w.raiseCauses ks).dropRef b := by
    unfold State.dropOrFailAttempt
    split
    · rfl
    · split
      · rename_i sg _ r hr
        rw [State.raiseCauses_seg] at hr
        exact absurd hr (h sg rfl r)
      · rfl
  rw [drop, (State.dropRef_ignoresAlert b).raiseCauses, State.formAlert_raiseCauses]

/-- A RECEIVING slot takes the frame as a bad answer: the buffer is released, then the attempt fails (R100, log 19). -/
theorem State.dropOrFailAttempt_receiving {w : State} {sg : Seg} {r : ExchangeRecord} {b : Nat} (h : (w.seg sg).slot = .receiving r)
    (hb : r.buffer = some b) (ks : List Cause) (c : Nat) :
    ((w.raiseCauses ks).dropOrFailAttempt (.seg sg) c).formAlert =
      (w.dropRef c).attemptEnds sg { r with lastResult := .badReply } .badreplies b ks := by
  simp only [State.dropOrFailAttempt, State.raiseCauses_seg, h]
  rw [(State.dropRef_ignoresAlert c).raiseCauses]
  exact State.failAttempt_formAlert _ sg { r with lastResult := .badReply } .badreplies hb ks

/-! ### The break -/

section
variable {s : State} {p : Port} {h : HeldChar} (hheld : (s.port p).rx.held = some h)
include hheld

theorem State.declareBreak_assembling {f : Assembly} (hrx : (s.port p).rx.state = .assembling f) :
    s.declareBreak p =
      (((s.storeBreakByte f).withRx p (Receiver.afterBreak .broken)).complete p (f.broken s.timeBase)).finish := by
  simp only [State.declareBreak, hheld, hrx]

theorem State.declareBreak_overlength {f : Assembly} (hrx : (s.port p).rx.state = .discarding (.overlength f)) :
    s.declareBreak p = ((s.withRx p (Receiver.afterBreak .broken)).complete p (f.broken s.timeBase)).finish := by
  simp only [State.declareBreak, hheld, hrx]

/-- A discard without a frame goes on over the break (R9). -/
theorem State.declareBreak_discarding {d : Discard} (hd : d = .refused ∨ d = .broken) (hrx : (s.port p).rx.state = .discarding d) :
    s.declareBreak p = s.withRx p (Receiver.afterBreak d) := by
  rcases hd with rfl | rfl <;> simp only [State.declareBreak, hheld, hrx]

/-- The break of a frame: the state with the held zero stored where there was room, and the frame `g` that completes in it (R9,
R26, R27). -/
theorem State.declareBreak_frame {f g : Assembly} {ram : Memory}
    (hf : (s.port p).rx.state = .assembling f ∧ f.length < 256 ∧
          g = { f with length := f.length + 1, errors := { f.errors with brk := true }, endStamp := s.timeBase } ∧
          ram = s.pool.ram.write (256 * f.buffer + f.length) 0#8 ∨
        ((s.port p).rx.state = .assembling f ∨ (s.port p).rx.state = .discarding (.overlength f)) ∧ f.length = 256 ∧
          g = { f with errors := { f.errors with overlength := true, brk := true }, endStamp := s.timeBase } ∧
          ram = s.pool.ram) :
    s.declareBreak p =
      ((({ s with pool := { s.pool with ram := ram } }).withRx p (Receiver.afterBreak .broken)).complete p g).finish := by
  rcases hf with ⟨hrx, hlen, rfl, rfl⟩ | ⟨hrx, hlen, rfl, rfl⟩
  · have room : f.length < Config.bufferBytes := hlen
    rw [State.declareBreak_assembling hheld hrx, State.storeBreakByte, if_pos room, Assembly.broken, if_pos room]
    rfl
  · have full : ¬ f.length < Config.bufferBytes := by simp [Config.bufferBytes, hlen]
    rcases hrx with hrx | hrx
    · rw [State.declareBreak_assembling hheld hrx, State.storeBreakByte, if_neg full, Assembly.broken, if_neg full]
    · rw [State.declareBreak_overlength hheld hrx, Assembly.broken, if_neg full]

end

/-- Settles O14: the broken frame completes as an errored one, and its buffer goes the way of R31 or of R100. -/
theorem breakEndsTheFrame : Obligations.BreakEndsTheFrame := by
  intro s p h f g ram hclock hheld
  rw [exec_breakDeclared hclock]
  refine ⟨fun hf hlens hbuffer => ?_, fun d hd hrx => ?_⟩
  · have frame : g.buffer = f.buffer ∧ g.errors.brk = true ∧ g.endStamp = s.timeBase := by
      rcases hf with ⟨_, _, rfl, _⟩ | ⟨_, _, rfl, _⟩ <;> exact ⟨rfl, rfl, rfl⟩
    obtain ⟨buffer, brk, stamp⟩ := frame
    let v : State := { s with pool := { s.pool with ram := ram } }
    obtain ⟨w, hw⟩ : ∃ w, w = v.errored p (Receiver.afterBreak .broken) f.buffer g.length g.errors s.timeBase := ⟨_, rfl⟩
    have slots (sg : Seg) : w.seg sg = s.seg sg := by rw [hw]; rfl
    have answer : s.declareBreak p = ((w.raiseCauses (s.snapshotCause p)).dropOrFailAttempt p f.buffer).finish := by
      have held : g.buffer < v.pool.lens.length := by rw [buffer]; simpa [v, hlens] using hbuffer
      rw [State.declareBreak_frame hheld hf, State.complete_broken brk held, buffer, stamp, ← hw]
      rfl
    rw [answer]
    refine ⟨w, _, rfl, State.followUp_startsFrom _, hw, fun hslot => ?_, ?_⟩
    · exact State.dropOrFailAttempt_unjudged (fun sg hp r => by rw [slots]; exact hslot sg hp r) _ _
    · rintro sg r b rfl hslot hb
      exact State.dropOrFailAttempt_receiving ((congrArg SegState.slot (slots sg)).trans hslot) hb _ _
  · rw [State.declareBreak_discarding hheld hd hrx]
    rfl

end Sys2Proof.Machine
end

section
/-! SUPPORT. The output pins: which bit of which character a port's data output shows at an instant (R7, R17). -/

namespace Sys2Proof.Machine

/-! ### The levels of a character -/

theorem Settings.length_characterLevels (st : Settings) (b : Byte) : (st.characterLevels b).length = st.characterBits := by
  unfold Settings.characterLevels Settings.characterBits
  cases st.parity <;> cases st.twoStops <;> rfl

/-- The levels after the data bits: the parity bit, where there is one, and then the line high (R7). -/
theorem Settings.levels_after_data (st : Settings) (b : Byte) (k : Nat) :
    ((if st.parity = .none then [] else [parityBitFor st.parity b]) ++ if st.twoStops then [true, true] else [true]).getD k true =
      st.lineBit b (9 + k) := by
  have stops (k : Nat) : (if st.twoStops then [true, true] else [true]).getD k true = true := by
    cases st.twoStops <;> rcases k with _ | _ | k <;> rfl
  have late : ¬ 9 + k = 0 ∧ ¬ 9 + k ≤ 8 := by omega
  rw [Settings.lineBit, if_neg late.1, if_neg late.2]
  cases hp : st.parity with
  | none => simpa using stops k
  | even =>
    rcases k with _ | k
    · simp [parityBitFor, beq_eq_decide]
    · simpa using stops k
  | odd =>
    rcases k with _ | k
    · simp [parityBitFor, beq_eq_decide]
    · simpa using stops k

/-- Bit `j` of a character's levels is the line's bit `j`; after the character the line is high (R7). -/
theorem Settings.getD_characterLevels (st : Settings) (b : Byte) (j : Nat) :
    (st.characterLevels b).getD j true = st.lineBit b j := by
  rcases j with _ | j
  · rfl
  · rw [Settings.characterLevels, List.append_assoc, List.cons_append, List.getD_cons_succ]
    by_cases hj : j < 8
    · rw [List.getD_append _ _ _ _ (by simpa using hj)]
      simp [Settings.lineBit, hj, Nat.succ_le_of_lt hj]
    · obtain ⟨k, rfl⟩ := Nat.exists_eq_add_of_le (Nat.not_lt.mp hj)
      rw [List.getD_append_right _ _ _ _ (by simp)]
      simpa [Nat.add_assoc, Nat.add_comm, Nat.add_left_comm] using st.levels_after_data b k

/-- In a row of pieces of one length, item `j` of piece `i`. -/
theorem getD_flatMap_of_length {α β : Type} {f : α → List β} {n : Nat} (hn : ∀ a, (f a).length = n) {l : List α} {i j : Nat}
    {a : α} (h : l[i]? = some a) (hj : j < n) (d : β) : (l.flatMap f).getD (i * n + j) d = (f a).getD j d := by
  induction l generalizing i with
  | nil => simp at h
  | cons x l ih =>
    rw [List.flatMap_cons]
    cases i with
    | zero =>
      obtain rfl : x = a := by simpa using h
      rw [List.getD_append _ _ _ _ (by rw [hn]; omega)]
      simp
    | succ i =>
      rw [List.getD_append_right _ _ _ _ (by rw [hn, Nat.succ_mul]; omega), hn,
        show (i + 1) * n + j - n = i * n + j by rw [Nat.succ_mul]; omega]
      exact ih (by simpa using h)

/-- The number of whole bits since an instant, from the bit's bounds. -/
theorem bits_since {start now k bit : Nat} (lo : start + k * bit ≤ now) (hi : now < start + (k + 1) * bit) :
    (now - start) / bit = k :=
  Nat.div_eq_of_lt_le (by omega) (by omega)

/-! ### The data output -/

section
variable {s : State} {p : Port}

theorem State.txdLevel_sending {cur : Current} {since : Nat} (h : (s.port p).tx.state = .sending cur since) :
    s.txdLevel p =
      ((s.currentBytes p cur).flatMap (s.port p).settings.characterLevels).getD
        ((s.now - since) / (s.port p).settings.bitFine) true := by
  simp only [State.txdLevel, h]

theorem State.txdLevel_draining (h : ∀ cur since, (s.port p).tx.state ≠ .sending cur since) {d : Drain}
    (hd : (s.port p).tx.drain = some d) :
    s.txdLevel p =
      ((s.port p).settings.characterLevels d.byte).getD ((s.now - d.start) / (s.port p).settings.bitFine) true := by
  unfold State.txdLevel
  split
  · rename_i e
    exact absurd e (h _ _)
  all_goals rw [hd]

theorem State.txdLevel_quiet (h : ∀ cur since, (s.port p).tx.state ≠ .sending cur since) (hd : (s.port p).tx.drain = none) :
    s.txdLevel p = true := by
  unfold State.txdLevel
  split
  · rename_i e
    exact absurd e (h _ _)
  all_goals rw [hd]

/-- While a port sends, bit `j` of character `i` stands on its data output in that bit's time (R7). -/
theorem State.txdLevel_frame {cur : Current} {since i j : Nat} {b : Byte} (h : (s.port p).tx.state = .sending cur since)
    (hb : (s.currentBytes p cur)[i]? = some b) (hj : j < (s.port p).settings.characterBits)
    (lo : since + (i * (s.port p).settings.characterBits + j) * (s.port p).settings.bitFine ≤ s.now)
    (hi : s.now < since + (i * (s.port p).settings.characterBits + j + 1) * (s.port p).settings.bitFine) :
    s.txdLevel p = (s.port p).settings.lineBit b j := by
  rw [State.txdLevel_sending h, bits_since lo hi, getD_flatMap_of_length (Settings.length_characterLevels _) hb hj,
    Settings.getD_characterLevels]

/-- Bit `j` of the character that a cut frame is finishing (R19, log 25). -/
theorem State.txdLevel_drain (h : ∀ cur since, (s.port p).tx.state ≠ .sending cur since) {d : Drain}
    (hd : (s.port p).tx.drain = some d) {j : Nat} (lo : d.start + j * (s.port p).settings.bitFine ≤ s.now)
    (hi : s.now < d.start + (j + 1) * (s.port p).settings.bitFine) :
    s.txdLevel p = (s.port p).settings.lineBit d.byte j := by
  rw [State.txdLevel_draining h hd, bits_since lo hi, Settings.getD_characterLevels]

theorem Settings.bitFine_pos (st : Settings) : 0 < st.bitFine := by
  have rate : 0 < bitRate st.rate ∧ bitRate st.rate ≤ Config.finePerMicro * 1000000 := by
    unfold bitRate
    split <;> decide
  exact Nat.div_pos rate.2 rate.1

/-- After the character that a cut frame is finishing the data output is high. -/
theorem State.txdLevel_drained (h : ∀ cur since, (s.port p).tx.state ≠ .sending cur since) {d : Drain}
    (hd : (s.port p).tx.drain = some d)
    (ended : d.start + (s.port p).settings.characterBits * (s.port p).settings.bitFine ≤ s.now) : s.txdLevel p = true := by
  have past : (s.port p).settings.characterBits ≤ (s.now - d.start) / (s.port p).settings.bitFine :=
    (Nat.le_div_iff_mul_le (Settings.bitFine_pos _)).mpr (by omega)
  rw [State.txdLevel_draining h hd, List.getD_eq_default _ _ (by rwa [Settings.length_characterLevels])]

end

/-- A segment's driver-enable covers the frame being sent and the character that a cut frame is finishing (R17). -/
theorem State.driverEnable_iff (s : State) (sg : Seg) :
    s.driverEnable sg = true ↔
      (∃ cur since, (s.port (.seg sg)).tx.state = .sending cur since) ∨
        ∃ d, (s.port (.seg sg)).tx.drain = some d ∧
          s.now < d.start + (s.port (.seg sg)).settings.characterBits * (s.port (.seg sg)).settings.bitFine := by
  rw [State.driverEnable]
  show _ ↔ _ ∨ ∃ d, (s.port (.seg sg)).tx.drain = some d ∧ s.now < d.start + (s.segSettings sg).characterFine
  cases (s.port (.seg sg)).tx.state with
  | sending cur since => simp
  | off => cases (s.port (.seg sg)).tx.drain <;> simp
  | idle => cases (s.port (.seg sg)).tx.drain <;> simp
  | waiting => cases (s.port (.seg sg)).tx.drain <;> simp

end Sys2Proof.Machine
end

section
/-! SUPPORT. The start of a transmission (R13 to R15, R81) and the idle point of a pending record (R5, R6), one equation for each
case. -/

namespace Sys2Proof.Machine

/-! ### When a transmission may start -/

theorem Slot.mayStart_iff {sl : Slot} : sl.mayStart = true ↔ sl = .free ∨ ∃ r, sl = .resend r := by
  cases sl <;> simp [Slot.mayStart]

theorem State.guardOver_iff {s : State} {p : Port} :
    s.guardOver p = true ↔
      ∀ t, (s.port p).guardFrom = some t → t + Config.finePerMicro * (s.port p).settings.guardMicros ≤ s.now := by
  unfold State.guardOver
  cases (s.port p).guardFrom <;> simp

/-- The trunk may always start; a segment with its receiver IDLE, its guard run out, and its slot FREE or in RESEND unless it is
UPLINK (R14, R15). -/
theorem State.startCondition_iff {s : State} {p : Port} :
    s.startCondition p = true ↔
      ∀ sg, p = .seg sg → (s.port p).rx.state = .idle ∧
        (∀ t, (s.port p).guardFrom = some t → t + Config.finePerMicro * (s.port p).settings.guardMicros ≤ s.now) ∧
        ((s.port p).settings.role = .uplink ∨ (s.seg sg).slot = .free ∨ ∃ r, (s.seg sg).slot = .resend r) := by
  cases p with
  | trunk => simp [State.startCondition]
  | seg sg => simp [State.startCondition, State.guardOver_iff, Slot.mayStart_iff, and_assoc]

section
variable {s : State} {p : Port}

theorem State.startPort_none (h : (s.port p).tx.state = .off ∨ (∃ c n, (s.port p).tx.state = .sending c n) ∨ s.choice p = none) :
    s.startPort p = s := by
  unfold State.startPort
  split
  · rfl
  · rfl
  all_goals
    rename_i e
    have hnone : s.choice p = none := by simpa [e] using h
    rw [hnone]

/-- An IDLE or WAITING transmitter with a choice starts it or waits (R13). -/
theorem State.startPort_choice (h : (s.port p).tx.state = .idle ∨ (s.port p).tx.state = .waiting) {c : Choice}
    (hc : s.choice p = some c) :
    s.startPort p = if s.startCondition p then s.begin p c else s.withTx p { (s.port p).tx with state := .waiting } := by
  unfold State.startPort
  rcases h with h | h <;> rw [h, hc]

end

/-! ### What a start does -/

section
variable (s : State) (p : Port)

theorem State.startSending_eq (c : Current) : s.startSending p c = s.withPort p (s.sendingPort p c) := by
  cases p <;> rfl

theorem State.startRetry_eq (sg : Seg) {r : ExchangeRecord} {b : Nat} (hb : r.buffer = some b) :
    s.startRetry (.seg sg) r =
      ((s.withPool (s.pool.addRef b)).withSlot sg
        (.sendingExchange { r with attempt := r.attempt + 1, retryPending := false })).withPort (.seg sg)
        (s.sendingPort (.seg sg) (.retry b)) := by
  simp only [State.startRetry, hb, State.startSending_eq]
  rfl

/-- The segment that is told of a taken descriptor on a FIELD segment: an exchange is opened with the next number, and any other
frame is sent with no answer expected (R90, R92, R93). -/
def State.told (sg : Seg) (d : Descriptor) : SegState :=
  match d.kind with
  | .exchange x =>
    { slot := .sendingExchange (s.openedRecord sg d x)
      lastNumber := nextExchangeNumber (s.seg sg).lastNumber
      counters := (s.seg sg).counters.bump .exchanges }
  | .plain | .reply | .notice => { s.seg sg with slot := .sendingNoAnswer }

theorem State.reportTake_field (sg : Seg) (d : Descriptor) (h : (s.segSettings sg).role = .field) :
    s.reportTake (.seg sg) d = s.withSeg sg (s.told sg d) := by
  simp only [State.reportTake, h, State.told]
  cases d.kind with
  | exchange x => simp [State.openExchange, State.countExchange, State.withSeg, State.seg]
  | plain => rfl
  | reply => rfl
  | notice => rfl

theorem State.reportTake_uplink (sg : Seg) (d : Descriptor) (h : (s.segSettings sg).role = .uplink) :
    s.reportTake (.seg sg) d = s := by
  simp only [State.reportTake, h]

/-- The port that has taken a descriptor off its queue and sends it (R81). -/
def State.takingPort (d : Descriptor) (rest : TxQueue) : PortState := { s.sendingPort p (.descriptor d) with queue := rest }

/-- The segments once port `p` has taken the descriptor `d`: a FIELD segment's slot has been told. -/
def State.segsTold (d : Descriptor) : PerSeg SegState :=
  match p with
  | .trunk => s.segs
  | .seg sg =>
    match (s.segSettings sg).role with
    | .field => s.segs.set sg (s.told sg d)
    | .uplink => s.segs

theorem State.begin_take (d : Descriptor) (rest : TxQueue) :
    s.begin p (.take d rest) =
      { s with ports := s.ports.set p (s.takingPort p d rest), segs := s.segsTold p d } := by
  have sending : (s.withQueue p rest).startSending p (.descriptor d) = s.withPort p (s.takingPort p d rest) := by
    rw [State.startSending_eq, State.withQueue, State.withPort_withPort]
    simp only [State.takingPort, State.sendingPort, State.withPort_port_self]
    cases p <;> rfl
  show ((s.withQueue p rest).startSending p (.descriptor d)).reportTake p d = _
  rw [sending]
  cases p with
  | trunk => rfl
  | seg sg =>
    have settings : (s.withPort (.seg sg) (s.takingPort (.seg sg) d rest)).segSettings sg = s.segSettings sg := by
      simp [State.segSettings, State.takingPort, State.sendingPort]
    cases hrole : (s.segSettings sg).role with
    | field =>
      rw [State.reportTake_field _ _ _ (by rw [settings, hrole])]
      simp only [State.segsTold, hrole]
      rfl
    | uplink =>
      rw [State.reportTake_uplink _ _ _ (by rw [settings, hrole])]
      simp only [State.segsTold, hrole]
      rfl

/-- A slot that is not the taking FIELD segment's is left alone. -/
theorem State.segsTold_other (d : Descriptor) {sg : Seg} (h : p ≠ .seg sg ∨ (s.port p).settings.role = .uplink) :
    (s.segsTold p d).get sg = s.seg sg := by
  unfold State.segsTold
  split
  · rfl
  · rename_i r
    split
    · rename_i hfield
      have hne : sg ≠ r := by
        rintro rfl
        rcases h with h | h
        · exact h rfl
        · rw [State.segSettings, h] at hfield
          nomatch hfield
      exact PerSeg.get_set_ne _ hne _
    · rfl

theorem State.segsTold_field (d : Descriptor) {sg : Seg} (h : (s.port (.seg sg)).settings.role = .field) :
    (s.segsTold (.seg sg) d).get sg = s.told sg d := by
  have role : (s.segSettings sg).role = .field := h
  simp [State.segsTold, role]

theorem State.told_noAnswer (sg : Seg) {d : Descriptor} (h : ∀ x, d.kind ≠ .exchange x) :
    s.told sg d = { s.seg sg with slot := .sendingNoAnswer } := by
  unfold State.told
  split
  · rename_i e
    exact absurd e (h _)
  all_goals rfl

theorem State.told_exchange (sg : Seg) {d : Descriptor} {x : ExchangeParams} (h : d.kind = .exchange x) :
    s.told sg d =
      { slot := .sendingExchange (s.openedRecord sg d x)
        lastNumber := nextExchangeNumber (s.seg sg).lastNumber
        counters := (s.seg sg).counters.bump .exchanges } := by
  simp only [State.told, h]

end

/-- Settles O28: the output pins bit by bit, then the start of each of the arbiter's choices. -/
theorem transmissionStartsWhenItMay : Obligations.TransmissionStartsWhenItMay := by
  refine ⟨fun s p i j st hst => ?_, fun s p => ⟨rfl, State.startCondition_iff, State.startPort_none, fun htx => ⟨?_, fun hstart => ?_⟩⟩⟩
  · subst hst
    refine ⟨fun cur since b h hb hj lo hi => State.txdLevel_frame h hb hj lo hi,
      fun d h hd _ => ⟨fun _ lo hi => State.txdLevel_drain h hd lo hi, State.txdLevel_drained h hd⟩,
      State.txdLevel_quiet, ?_⟩
    rintro sg rfl
    exact s.driverEnable_iff sg
  · intro hc hstart
    obtain ⟨c, hc⟩ := Option.ne_none_iff_exists'.mp hc
    rw [State.startPort_choice htx hc, hstart]
    rfl
  · have starts {c : Choice} (hc : s.choice p = some c) : s.startPort p = s.begin p c := by
      rw [State.startPort_choice htx hc, if_pos hstart]
    refine ⟨fun hc => ?_, fun hc => ?_, ?_, fun d rest hc => ?_⟩
    · rw [starts hc]
      exact s.startSending_eq p .reply
    · rw [starts hc]
      exact s.startSending_eq p .alert
    · rintro sg r b rfl hc hb
      rw [starts hc]
      exact s.startRetry_eq sg hb
    · refine ⟨s.segsTold p d, by rw [starts hc, State.begin_take]; rfl, fun sg => ⟨s.segsTold_other p d, ?_⟩⟩
      rintro rfl hfield
      rw [State.segsTold_field _ _ hfield]
      refine ⟨State.told_noAnswer s sg, ?_⟩
      rintro x n hkind rfl
      exact State.told_exchange s sg hkind

/-! ### The idle point -/

section
variable (s : State) (p : Port) (st : Settings)

/-- The idle point of a pending record, in the words of R5. -/
theorem State.atIdlePoint_iff :
    s.atIdlePoint p st = true ↔
      (s.port p).enabled = true ∧ (s.port p).rx.state = .idle ∧ (s.port p).tx.state = .idle ∧ s.hasWork p = false ∧
        (∀ sg, p = .seg sg → (s.port p).settings.role = .uplink ∨ (s.seg sg).slot = .free) ∧
        (st.role = (s.port p).settings.role ∨ (s.port p).queue.urgent = [] ∧ (s.port p).queue.normal = []) := by
  have depth : (s.port p).queue.depth = 0 ↔ (s.port p).queue.urgent = [] ∧ (s.port p).queue.normal = [] := by
    simp [TxQueue.depth]
  cases p <;> simp [State.atIdlePoint, depth, and_assoc]

/-- The segments once a record of role `r` has become active on port `p` (R6, R87). -/
def State.segsForRole (r : Role) : PerSeg SegState :=
  match p with
  | .trunk => s.segs
  | .seg sg => s.segs.set sg { s.seg sg with slot := Slot.forRole r }

theorem State.activateSettings_eq :
    s.activateSettings p st =
      { s with
        ports := s.ports.set p { s.port p with settings := st, pendingSettings := none }
        segs := s.segsForRole p st.role } := by
  cases p <;> rfl

theorem Slot.forRole_eq (r : Role) : Slot.forRole r = if r = .field then .free else .outOfUse := by cases r <;> rfl

theorem State.segsForRole_get (r : Role) (sg : Seg) :
    (s.segsForRole p r).get sg =
      { s.seg sg with slot := if p = .seg sg then (if r = .field then .free else .outOfUse) else (s.seg sg).slot } := by
  rw [← Slot.forRole_eq]
  cases p with
  | trunk => rfl
  | seg q =>
    by_cases hq : sg = q
    · subst hq
      simp [State.segsForRole]
    · have ne : Port.seg q ≠ Port.seg sg := fun e => hq (Port.seg.inj e).symm
      rw [if_neg ne]
      exact PerSeg.get_set_ne _ hq _

end

/-- Settles O29: the record's test is the idle point, and what it does is one update of the port and the slot. -/
theorem pendingRecordBecomesActiveAtTheIdlePoint : Obligations.PendingRecordBecomesActiveAtTheIdlePoint := by
  intro s p st hst
  have applied : s.applyPending p = if s.atIdlePoint p st then s.activateSettings p st else s := by
    rw [State.applyPending, hst]
  rw [applied, ← State.atIdlePoint_iff]
  refine ⟨fun h => ⟨s.segsForRole p st.role, ?_, s.segsForRole_get p st.role⟩, fun h => if_neg h⟩
  rw [if_pos h, State.activateSettings_eq]

end Sys2Proof.Machine
end

section
/-! SUPPORT. Who holds which buffer, as one value: `State.ledger` is what the laws of the pool, of the slots and of ports that are
off look at (R19, R37, R38, R81, R87, R108). `Ledger.Sound` states all these laws together, beside references that an event
has in hand and has not yet given to a holder. -/

namespace Sys2Proof.Machine

/-! ### The ledger -/

/-- A port and, for a segment, its slot, as far as the laws of the holders look at them. -/
structure Line where
  enabled : Bool
  role : Role
  rx : Receiver
  tx : TxState
  queue : TxQueue
  lane : Option Reply
  slot : Option Slot

/-- The buffer that a transmitter holds a reference on (R81). -/
def TxState.reference (tx : TxState) : Option Nat :=
  match tx with
  | .sending cur _ => cur.buffer
  | .off | .idle | .waiting => none

/-- The buffers on a queue, URGENT before NORMAL. -/
def TxQueue.buffers (q : TxQueue) : List Nat := (q.urgent ++ q.normal).map (·.buffer)

/-- The buffers that a port and its slot hold references on (R38). -/
def Line.holds (x : Line) : List Nat :=
  x.rx.state.buffer.toList ++ x.queue.buffers ++ x.tx.reference.toList ++ (x.slot.bind Slot.requestReference).toList

/-- What the laws of the holders look at. -/
structure Ledger where
  pool : Pool
  line : Port → Line
  input : List Nat
  held : Bool
  store : StoreState

/-- The free list and the counts of a pool, its bytes, lengths and watermark left out. -/
def Pool.counts (m : Pool) : Pool := ⟨m.free, m.refs, [], [], 0⟩

/-- The slot beside a port; the trunk has none. -/
def State.slotOf (s : State) (p : Port) : Option Slot :=
  match p with
  | .trunk => none
  | .seg sg => some (s.seg sg).slot

def PortState.line (x : PortState) (slot : Option Slot) : Line :=
  ⟨x.enabled, x.settings.role, x.rx, x.tx.state, x.queue, x.lane, slot⟩

def State.line (s : State) (p : Port) : Line := (s.port p).line (s.slotOf p)

def State.ledger (s : State) : Ledger :=
  ⟨s.pool.counts, s.line, s.agent.input.map (·.buffer), s.heldInReset, s.store.state⟩

/-- All holders of buffers. -/
def Ledger.holds (v : Ledger) : List Nat := Port.list.flatMap (fun p => (v.line p).holds) ++ v.input

/-- One port and its slot replaced. -/
def Ledger.setLine (v : Ledger) (p : Port) (x : Line) : Ledger := { v with line := Function.update v.line p x }

@[simp] theorem Ledger.setLine_pool (v : Ledger) (p : Port) (x : Line) : (v.setLine p x).pool = v.pool := rfl
@[simp] theorem Ledger.setLine_input (v : Ledger) (p : Port) (x : Line) : (v.setLine p x).input = v.input := rfl
@[simp] theorem Ledger.setLine_held (v : Ledger) (p : Port) (x : Line) : (v.setLine p x).held = v.held := rfl
@[simp] theorem Ledger.setLine_store (v : Ledger) (p : Port) (x : Line) : (v.setLine p x).store = v.store := rfl
@[simp] theorem Ledger.setLine_line (v : Ledger) (p : Port) (x : Line) : (v.setLine p x).line p = x := by
  simp [Ledger.setLine]
@[simp] theorem Ledger.setLine_line_ne (v : Ledger) {p q : Port} (h : q ≠ p) (x : Line) :
    (v.setLine p x).line q = v.line q := by
  simp [Ledger.setLine, h]
@[simp] theorem Ledger.setLine_self (v : Ledger) (p : Port) : v.setLine p (v.line p) = v := by
  simp [Ledger.setLine]
@[simp] theorem Ledger.setLine_setLine (v : Ledger) (p : Port) (x y : Line) :
    (v.setLine p x).setLine p y = v.setLine p y := by
  simp [Ledger.setLine]

/-- A replaced port brings its holders for the old ones. -/
theorem Ledger.count_setLine (v : Ledger) (p : Port) (x : Line) (b : Nat) :
    (v.setLine p x).holds.count b + (v.line p).holds.count b = v.holds.count b + x.holds.count b := by
  rcases p with _ | _ | _ | _ | _ <;>
    simp [Ledger.holds, Port.list, Ledger.setLine, Function.update] <;> omega

/-! ### The laws -/

/-- The exchange record in a slot (R88). -/
def Slot.record (sl : Slot) : Option ExchangeRecord :=
  match sl with
  | .sendingExchange r | .awaiting r _ | .receiving r | .lapsed r _ | .resend r => some r
  | .outOfUse | .free | .sendingNoAnswer | .settling _ => none

/-- A slot whose record keeps the law of R108, with a retry pending in RESEND (R105). -/
structure Slot.Tries (sl : Slot) : Prop where
  attempt : ∀ r ∈ sl.record, r.attemptOk
  resend : ∀ r, sl = .resend r → r.retryPending = true

/-- A slot and its segment's port agree (R12, R19, R81, R82, R87, R103, R109). -/
structure Line.Seats (x : Line) (sl : Slot) : Prop where
  unused : sl = .outOfUse ↔ x.role = .uplink
  stopped : x.tx = .off → sl = .free ∨ sl = .outOfUse
  muted : x.tx.isSending = true → x.rx.state = .muted
  agrees : sl.agreesWith x.tx = true
  tries : sl.Tries

/-- A port that is off does and holds nothing (R19, R84), and a segment's slot agrees with its port. -/
structure Line.Ok (x : Line) : Prop where
  disabled : x.enabled = false → x.tx = .off
  off : x.tx = .off → x.rx = Receiver.fresh .off ∧ x.queue = TxQueue.empty ∧ x.lane = none
  slot : ∀ sl ∈ x.slot, x.Seats sl

/-- The trunk has no slot to agree with. -/
theorem Line.seats_of_none {x : Line} (h : x.slot = none) : ∀ sl ∈ x.slot, x.Seats sl := by simp [h]

/-- The part is neither held in a reset nor in a start-up load. -/
structure Ledger.Awake (v : Ledger) : Prop where
  held : v.held = false
  startup : ∀ src, v.store ≠ .startup src

/-- The laws of the holders (R19, R37, R38, R87, R108) while an event has references on `loose` in hand. -/
structure Ledger.Sound (v : Ledger) (loose : List Nat) : Prop where
  pool : v.pool.lawful
  counts : ∀ b < Config.poolBuffers, v.pool.refCount b = v.holds.count b + loose.count b
  line : ∀ p, (v.line p).Ok
  quiet : v.Awake ∨ ((∀ p, (v.line p).tx = .off) ∧ v.input = [])
  held : v.held = true → v.store = .idle

/-- The laws of the holders for a state. -/
def State.Sound (s : State) (loose : List Nat) : Prop := s.ledger.Sound loose

/-! ### The laws in terms of the ledger -/

theorem PortState.holds_line (x : PortState) (sl : Option Slot) :
    (x.line sl).holds = x.holds ++ (sl.bind Slot.requestReference).toList := by
  have tx : (x.line sl).tx.reference.toList = match x.tx.state with
      | .sending cur _ => cur.buffer.toList
      | .off | .idle | .waiting => [] := by
    unfold PortState.line TxState.reference
    cases x.tx.state <;> rfl
  rw [Line.holds, tx]
  rfl

theorem State.count_holds (s : State) (b : Nat) : s.holds.count b = s.ledger.holds.count b := by
  simp only [State.holds, Ledger.holds, State.ledger, State.line, PortState.holds_line, Port.list, Seg.list, State.slotOf,
    List.flatMap_cons, List.flatMap_nil, List.count_append, Option.bind_some, Option.bind_none]
  simp
  omega

theorem State.attemptsOk_iff (s : State) : s.attemptsOk ↔ ∀ sg, (s.seg sg).slot.Tries := by
  have record (sg : Seg) : (∀ r ∈ s.slotRecord sg, r.attemptOk) ↔ ∀ r ∈ (s.seg sg).slot.record, r.attemptOk := by
    unfold State.slotRecord Slot.record
    cases (s.seg sg).slot <;> simp [ExchangeRecord.attemptOk]
  simp only [State.attemptsOk, Seg.mem_list, forall_const, record]
  exact ⟨fun h sg => ⟨(h sg).1, (h sg).2⟩, fun h sg => ⟨(h sg).attempt, (h sg).resend⟩⟩

theorem State.not_awake (s : State) :
    ¬ s.ledger.Awake ↔ s.heldInReset = true ∨ ∃ src, s.store.state = .startup src := by
  constructor
  · intro h
    by_contra hn
    push Not at hn
    exact h ⟨(Bool.not_eq_true _).mp hn.1, hn.2⟩
  · rintro (h | ⟨src, h⟩) ⟨held, startup⟩
    · exact absurd (held.symm.trans h) (by simp)
    · exact startup src h

/-- The laws of the holders in the words of R19, R37, R38, R81, R87 and R108. -/
theorem State.holdersOk_iff (s : State) : s.holdersOk ↔ s.Sound [] := by
  constructor
  · rintro ⟨hpool, hcounts, hroles, hattempts, hagrees, hoff, hstopped, hmuted, hquiet, hheld⟩
    refine ⟨hpool, fun b hb => ?_, fun p => ⟨?_, ?_, ?_⟩, ?_, hheld⟩
    · rw [← State.count_holds]
      exact hcounts b hb
    · exact (hoff p p.mem_list).1
    · exact (hoff p p.mem_list).2
    · rcases p with _ | sg
      · exact Line.seats_of_none rfl
      · rintro sl ⟨⟩
        exact ⟨hroles sg sg.mem_list, hstopped sg sg.mem_list, hmuted sg sg.mem_list, hagrees sg sg.mem_list,
          s.attemptsOk_iff.mp hattempts sg⟩
    · refine or_iff_not_imp_left.mpr fun h => ?_
      obtain ⟨hports, hinput⟩ := hquiet (s.not_awake.mp h)
      exact ⟨fun p => hports p p.mem_list, by simp [State.ledger, hinput]⟩
  · rintro ⟨hpool, hcounts, hline, hquiet, hheld⟩
    have seats (sg : Seg) : (s.line (.seg sg)).Seats (s.seg sg).slot := (hline (.seg sg)).slot _ rfl
    refine ⟨hpool, fun b hb => ?_, fun sg _ => (seats sg).unused, s.attemptsOk_iff.mpr fun sg => (seats sg).tries,
      fun sg _ => (seats sg).agrees, fun p _ => ⟨(hline p).disabled, (hline p).off⟩, fun sg _ => (seats sg).stopped,
      fun sg _ => (seats sg).muted, fun h => ?_, hheld⟩
    · rw [State.count_holds]
      exact hcounts b hb
    · obtain ⟨hports, hinput⟩ := hquiet.resolve_left (s.not_awake.mpr h)
      exact ⟨fun p _ => hports p, by simpa [State.ledger] using hinput⟩

end Sys2Proof.Machine
end

section
/-! SUPPORT. What the updates of the state do to the ledger, and the moves that keep its laws: a port or slot replaced, references
dropped, added and reserved (R24, R37, R38). -/

namespace Sys2Proof.Machine

/-! ### The ledger after an update -/

section
variable (s : State)

@[simp] theorem State.withPool_ledger (m : Pool) : (s.withPool m).ledger = { s.ledger with pool := m.counts } := rfl
@[simp] theorem State.withAgent_ledger (a : Agent) :
    (s.withAgent a).ledger = { s.ledger with input := a.input.map (·.buffer) } := rfl
@[simp] theorem State.withStore_ledger (x : Store) : (s.withStore x).ledger = { s.ledger with store := x.state } := rfl
@[simp] theorem State.withAlert_ledger (a : AlertUnit) : (s.withAlert a).ledger = s.ledger := rfl
@[simp] theorem State.withAlertLane_ledger (x : Option (List Byte)) : (s.withAlertLane x).ledger = s.ledger := rfl
@[simp] theorem State.withRules_ledger (x : List (Option Entry)) : (s.withRules x).ledger = s.ledger := rfl

theorem State.withPort_ledger (p : Port) (x : PortState) :
    (s.withPort p x).ledger = s.ledger.setLine p (x.line (s.slotOf p)) := by
  have lines : (s.withPort p x).line = Function.update s.line p (x.line (s.slotOf p)) := by
    funext q
    by_cases hq : q = p
    · subst hq
      rw [Function.update_self, State.line, State.withPort_port_self]
      rfl
    · rw [Function.update_of_ne hq, State.line, State.withPort_port_ne _ _ _ hq]
      rfl
  rw [State.ledger, lines]
  rfl

theorem State.withSeg_ledger (sg : Seg) (x : SegState) :
    (s.withSeg sg x).ledger = s.ledger.setLine (.seg sg) ((s.port (.seg sg)).line (some x.slot)) := by
  have lines : (s.withSeg sg x).line = Function.update s.line (.seg sg) ((s.port (.seg sg)).line (some x.slot)) := by
    funext q
    rcases q with _ | r
    · rfl
    · by_cases hr : r = sg
      · subst hr
        simp [State.line, State.slotOf]
      · rw [Function.update_of_ne (by simpa using hr)]
        simp [State.line, State.slotOf, hr]
  rw [State.ledger, lines]
  rfl

/-- A change of a port beside what the ledger looks at. -/
theorem State.withPort_ledger_same {p : Port} {x : PortState}
    (h : ∀ sl, x.line sl = (s.port p).line sl) : (s.withPort p x).ledger = s.ledger := by
  rw [State.withPort_ledger, h]
  exact s.ledger.setLine_self p

/-- A change of a segment beside its slot. -/
theorem State.withSeg_ledger_same {sg : Seg} {x : SegState} (h : x.slot = (s.seg sg).slot) :
    (s.withSeg sg x).ledger = s.ledger := by
  rw [State.withSeg_ledger, h]
  exact s.ledger.setLine_self (.seg sg)

@[simp] theorem State.count_ledger (p : Port) (k : PortCounter) : (s.count p k).ledger = s.ledger :=
  s.withPort_ledger_same fun _ => rfl
@[simp] theorem State.withGuard_ledger (p : Port) (x : Option Nat) : (s.withGuard p x).ledger = s.ledger :=
  s.withPort_ledger_same fun _ => rfl
@[simp] theorem State.withPendingSettings_ledger (p : Port) (x : Option Settings) :
    (s.withPendingSettings p x).ledger = s.ledger := s.withPort_ledger_same fun _ => rfl
@[simp] theorem State.withSnapshot_ledger (p : Port) (x : Option Snapshot) : (s.withSnapshot p x).ledger = s.ledger :=
  s.withPort_ledger_same fun _ => rfl
@[simp] theorem State.countExchange_ledger (sg : Seg) (k : ExchangeCounter) : (s.countExchange sg k).ledger = s.ledger :=
  s.withSeg_ledger_same rfl

end

/-! ### The pool's moves -/

theorem Pool.counts_drop (m : Pool) (b : Nat) : (m.drop b).counts = m.counts.drop b := by
  have same : m.counts.refCount b = m.refCount b := rfl
  rcases h : m.refCount b with _ | _ | n <;> simp only [Pool.drop, same, h] <;> rfl

theorem Pool.counts_addRef (m : Pool) (b : Nat) : (m.addRef b).counts = m.counts.addRef b := by
  have same : m.counts.refCount b = m.refCount b := rfl
  rcases h : m.refCount b with _ | n
  · simp only [Pool.addRef, same, h]
  · simp only [Pool.addRef, same, h]
    rfl

theorem Pool.refCount_drop {m : Pool} (h : m.lawful) (b c : Nat) :
    (m.drop b).refCount c = m.refCount c - if c = b then 1 else 0 := by
  obtain ⟨hlen, _⟩ := h
  unfold Pool.drop
  split
  · split <;> simp_all
  · rename_i h1
    refine (Pool.refCount_set m b 0 c (by rw [hlen]; exact Pool.refCount_lt hlen (by omega))).trans ?_
    split <;> simp_all
  · rename_i n h2
    refine (Pool.refCount_set m b (n + 1) c (by rw [hlen]; exact Pool.refCount_lt hlen (by omega))).trans ?_
    split <;> simp_all

theorem Pool.refCount_addRef {m : Pool} (h : m.lawful) {b : Nat} (hb : m.refCount b ≠ 0) (c : Nat) :
    (m.addRef b).refCount c = m.refCount c + if c = b then 1 else 0 := by
  obtain ⟨hlen, _⟩ := h
  unfold Pool.addRef
  split
  · contradiction
  · rename_i n h1
    refine (Pool.refCount_set m b (n + 2) c (by rw [hlen]; exact Pool.refCount_lt hlen hb)).trans ?_
    split <;> simp_all

/-- A reserved buffer had no holder and now has one (R24, R37). -/
theorem Pool.refCount_reserve {m m' : Pool} (hl : m.lawful) {b : Nat} (h : m.reserve = some (b, m')) (c : Nat) :
    m'.refCount c = m.refCount c + if c = b then 1 else 0 := by
  obtain ⟨hfree, hrefs, _⟩ := Pool.reserve_some h
  obtain ⟨hlen, _, hlt, hiff⟩ := hl
  have hmem : b ∈ m.free := by simp [hfree]
  have hb := hlt b hmem
  have zero : m.refCount b = 0 := (hiff b hb).mp hmem
  have set := Pool.refCount_set m b 1 c (by rw [hlen]; exact hb)
  rw [Pool.refCount, hrefs, set]
  split <;> simp_all

/-! ### Moves that keep the laws -/

section
variable {v : Ledger} {loose : List Nat}

/-- A port that is not off shows that the part is awake (R20, R21). -/
theorem Ledger.Sound.awake (h : v.Sound loose) {p : Port} (hp : (v.line p).tx ≠ .off) : v.Awake :=
  h.quiet.resolve_right fun hn => hp (hn.1 p)

/-- A command that waits for the agent shows that the part is awake (R148). -/
theorem Ledger.Sound.awake_of_input (h : v.Sound loose) (hi : v.input ≠ []) : v.Awake :=
  h.quiet.resolve_right fun hn => hi hn.2

/-- A port replaced with its slot: the references it no longer holds are in hand, and those it now holds no longer are. -/
theorem Ledger.Sound.setLine (h : v.Sound loose) {p : Port} {x : Line} (ok : x.Ok) (on : x.tx = .off ∨ v.Awake)
    {loose' : List Nat}
    (hc : ∀ b, x.holds.count b + loose'.count b = (v.line p).holds.count b + loose.count b) :
    (v.setLine p x).Sound loose' := by
  refine ⟨h.pool, fun b hb => ?_, fun q => ?_, ?_, h.held⟩
  · have old : v.pool.refCount b = _ := h.counts b hb
    have new := v.count_setLine p x b
    have change := hc b
    rw [Ledger.setLine_pool]
    omega
  · by_cases hq : q = p
    · subst hq
      simpa using ok
    · simpa [hq] using h.line q
  · by_cases hv : v.Awake
    · exact .inl ⟨hv.held, hv.startup⟩
    · obtain ⟨hlines, hinput⟩ := h.quiet.resolve_left hv
      refine .inr ⟨fun q => ?_, hinput⟩
      by_cases hq : q = p
      · subst hq
        simpa using on.resolve_right hv
      · simpa [hq] using hlines q

/-- A reference in hand is dropped (R37). -/
theorem Ledger.Sound.drop {b : Nat} (h : v.Sound (b :: loose)) : Ledger.Sound { v with pool := v.pool.drop b } loose := by
  refine ⟨Pool.lawful_drop h.pool b, fun c hc => ?_, h.line, h.quiet.imp (fun a => ⟨a.held, a.startup⟩) id, h.held⟩
  have count := h.counts c hc
  rw [Pool.refCount_drop h.pool, count, List.count_cons]
  show _ = v.holds.count c + _
  by_cases hcb : c = b
  · simp [hcb]
  · simp [hcb, Ne.symm hcb]

/-- One more reference, on a buffer that has a holder (R38). -/
theorem Ledger.Sound.addRef {b : Nat} (h : v.Sound loose) (hb : b ∈ v.holds ++ loose) :
    Ledger.Sound { v with pool := v.pool.addRef b } (b :: loose) := by
  refine ⟨Pool.lawful_addRef h.pool b, fun c hc => ?_, h.line, h.quiet.imp (fun a => ⟨a.held, a.startup⟩) id, h.held⟩
  have count := h.counts c hc
  show _ = v.holds.count c + _
  by_cases hcb : c = b
  · subst hcb
    have pos : 0 < (v.holds ++ loose).count c := List.count_pos_iff.mpr hb
    rw [List.count_append] at pos
    rw [Pool.refCount_addRef h.pool (by omega), count]
    simp [Nat.add_assoc]
  · have same : (v.pool.addRef b).refCount c = v.pool.refCount c := by
      by_cases hz : v.pool.refCount b = 0
      · simp [Pool.addRef, hz]
      · simp [Pool.refCount_addRef h.pool hz, hcb]
    rw [same, count, List.count_cons_of_ne (Ne.symm hcb)]

/-- A buffer reserved from the free list is in hand (R24, R37). -/
theorem Ledger.Sound.reserve {b : Nat} {m : Pool} (h : v.Sound loose) (hm : v.pool.reserve = some (b, m)) :
    Ledger.Sound { v with pool := m } (b :: loose) := by
  refine ⟨Pool.lawful_reserve h.pool hm, fun c hc => ?_, h.line, h.quiet.imp (fun a => ⟨a.held, a.startup⟩) id, h.held⟩
  have count := h.counts c hc
  show _ = v.holds.count c + _
  rw [Pool.refCount_reserve h.pool hm, count, List.count_cons]
  by_cases hcb : c = b
  · simp [hcb, Nat.add_assoc]
  · simp [hcb, Ne.symm hcb]

/-- The agent's input queue replaced (R120, R121). -/
theorem Ledger.Sound.setInput {input : List Nat} (h : v.Sound loose) (hv : v.Awake) {loose' : List Nat}
    (hc : ∀ b, input.count b + loose'.count b = v.input.count b + loose.count b) :
    Ledger.Sound { v with input := input } loose' := by
  refine ⟨h.pool, fun b hb => ?_, h.line, .inl ⟨hv.held, hv.startup⟩, h.held⟩
  have count := h.counts b hb
  have change := hc b
  rw [Ledger.holds, List.count_append] at count ⊢
  dsimp only
  omega

/-- The store in another state that is no start-up load, and IDLE if a reset is held (R174, R184). -/
theorem Ledger.Sound.setStore {st : StoreState} (h : v.Sound loose) (hst : ∀ src, st ≠ .startup src)
    (held : v.held = true → st = .idle) : Ledger.Sound { v with store := st } loose :=
  ⟨h.pool, h.counts, h.line, h.quiet.imp (fun a => ⟨a.held, hst⟩) id, held⟩

end

/-! ### The same for states -/

section
variable {s t : State} {loose loose' : List Nat}

theorem State.Sound.congr (h : s.Sound loose) (e : t.ledger = s.ledger) : t.Sound loose := by
  rw [State.Sound, e]
  exact h

theorem State.Sound.dropRef {b : Nat} (h : s.Sound (b :: loose)) : (s.dropRef b).Sound loose := by
  rw [State.Sound, State.dropRef, State.withPool_ledger, Pool.counts_drop]
  exact Ledger.Sound.drop h

theorem State.Sound.dropRef? {b : Option Nat} (h : s.Sound (b.toList ++ loose)) : (s.dropRef? b).Sound loose := by
  cases b with
  | none => exact h
  | some b => exact State.Sound.dropRef h

theorem State.Sound.dropRefs {bs : List Nat} (h : s.Sound (bs ++ loose)) : (s.dropRefs bs).Sound loose := by
  induction bs generalizing s with
  | nil => exact h
  | cons b bs ih => exact ih (State.Sound.dropRef h)

theorem State.Sound.addRef {b : Nat} (h : s.Sound loose) (hb : b ∈ s.ledger.holds ++ loose) :
    (s.withPool (s.pool.addRef b)).Sound (b :: loose) := by
  rw [State.Sound, State.withPool_ledger, Pool.counts_addRef]
  exact Ledger.Sound.addRef h hb

theorem State.Sound.reserve {b : Nat} {m : Pool} (h : s.Sound loose) (hm : s.pool.reserve = some (b, m)) :
    (s.withPool m).Sound (b :: loose) := by
  rw [State.Sound, State.withPool_ledger]
  have counts : s.pool.counts.reserve = some (b, { m.counts with watermark := min 0 m.free.length }) := by
    obtain ⟨hfree, hrefs, _⟩ := Pool.reserve_some hm
    unfold Pool.reserve Pool.counts
    rw [hfree, hrefs]
  have reserved := Ledger.Sound.reserve h counts
  rwa [Nat.zero_min] at reserved

/-- A port replaced beside its slot. -/
theorem State.Sound.withPort (h : s.Sound loose) {p : Port} {x : PortState} (ok : (x.line (s.slotOf p)).Ok)
    (on : x.tx.state = .off ∨ s.ledger.Awake)
    (hc : ∀ b, x.holds.count b + loose'.count b = (s.port p).holds.count b + loose.count b) :
    (s.withPort p x).Sound loose' := by
  rw [State.Sound, State.withPort_ledger]
  refine Ledger.Sound.setLine h ok on fun b => ?_
  have change := hc b
  show _ = (s.line p).holds.count b + _
  simp only [State.line, PortState.holds_line, List.count_append]
  omega

/-- A segment's port and slot replaced together. -/
theorem State.Sound.withPortSlot (h : s.Sound loose) {sg : Seg} {x : PortState} {sl : Slot} (ok : (x.line (some sl)).Ok)
    (on : x.tx.state = .off ∨ s.ledger.Awake)
    (hc : ∀ b, x.holds.count b + sl.requestReference.toList.count b + loose'.count b =
      (s.port (.seg sg)).holds.count b + (s.seg sg).slot.requestReference.toList.count b + loose.count b) :
    ((s.withPort (.seg sg) x).withSlot sg sl).Sound loose' := by
  have ledger : ((s.withPort (.seg sg) x).withSlot sg sl).ledger = s.ledger.setLine (.seg sg) (x.line (some sl)) := by
    rw [State.withSlot, State.withSeg_ledger, State.withPort_ledger, Ledger.setLine_setLine, State.withPort_port_self]
  rw [State.Sound, ledger]
  refine Ledger.Sound.setLine h ok on fun b => ?_
  have change := hc b
  show _ = (s.line (.seg sg)).holds.count b + _
  simp only [State.line, State.slotOf, PortState.holds_line, Option.bind_some, List.count_append]
  omega

/-- A slot replaced. -/
theorem State.Sound.withSlot (h : s.Sound loose) {sg : Seg} {sl : Slot} (seats : (s.line (.seg sg)).Seats sl)
    (hc : ∀ b, sl.requestReference.toList.count b + loose'.count b =
      (s.seg sg).slot.requestReference.toList.count b + loose.count b) : (s.withSlot sg sl).Sound loose' := by
  have ok := h.line (.seg sg)
  have off : ¬ s.ledger.Awake → (s.port (.seg sg)).tx.state = .off := fun hn => (h.quiet.resolve_left hn).1 (.seg sg)
  have seated : ((s.port (.seg sg)).line (some sl)).Ok := by
    refine ⟨ok.disabled, ok.off, ?_⟩
    rintro _ ⟨⟩
    exact ⟨seats.unused, seats.stopped, seats.muted, seats.agrees, seats.tries⟩
  have replaced : ((s.withPort (.seg sg) (s.port (.seg sg))).withSlot sg sl).Sound loose' :=
    h.withPortSlot seated (or_iff_not_imp_right.mpr off) fun b => by have := hc b; omega
  rwa [State.withPort_self] at replaced

end

end Sys2Proof.Machine
end

section
/-! SUPPORT. The operations of queues, notices, exchanges and the classifier keep the laws of the holders: what each does with a
reference that the event has in hand (R38, R65 to R70, R73, R95 to R104, R114). -/

namespace Sys2Proof.Machine

/-! ### Operations that the ledger does not see -/

section
variable (s : State)

@[simp] theorem State.countIf_ledger (c : Bool) (p : Port) (k : PortCounter) : (s.countIf c p k).ledger = s.ledger := by
  cases c <;> simp [State.countIf]

@[simp] theorem State.countErrors_ledger (p : Port) (e : ErrorSet) : (s.countErrors p e).ledger = s.ledger := by
  simp [State.countErrors]

@[simp] theorem State.raiseCause_ledger (k : Cause) : (s.raiseCause k).ledger = s.ledger := by
  unfold State.raiseCause; split <;> rfl

@[simp] theorem State.formAlert_ledger : s.formAlert.ledger = s.ledger := by
  unfold State.formAlert; split <;> rfl

@[simp] theorem State.placeCurrentAlert_ledger : s.placeCurrentAlert.ledger = s.ledger := by
  unfold State.placeCurrentAlert; split <;> rfl

@[simp] theorem State.reportManagement_ledger (p : Port) : (s.reportManagement p).ledger = s.ledger := by
  cases p with
  | trunk =>
    unfold State.reportManagement State.reportTrunkManagement
    dsimp only
    split <;> simp
  | seg sg => rfl

@[simp] theorem State.offerSnapshot_ledger (p : Port) (k : SnapshotKind) (t : Stamp) (n : Nat) (bs : List Byte) :
    (s.offerSnapshot p k t n bs).ledger = s.ledger := by
  unfold State.offerSnapshot; split <;> simp

@[simp] theorem State.guardFromCharacter_ledger (p : Port) (t : Nat) : (s.guardFromCharacter p t).ledger = s.ledger := by
  cases p <;> simp [State.guardFromCharacter]

@[simp] theorem State.setLength_ledger (b n : Nat) : (s.withPool (s.pool.setLength b n)).ledger = s.ledger := rfl

end

/-! ### What the laws say of one port -/

section
variable {s : State} {loose loose' : List Nat} {p : Port} {sg : Seg}

theorem State.Sound.enabled (h : s.Sound loose) (on : (s.port p).tx.state ≠ .off) : (s.port p).enabled = true := by
  by_contra hd
  exact on ((h.line p).disabled ((Bool.not_eq_true _).mp hd))

theorem State.Sound.seats (h : s.Sound loose) (sg : Seg) : (s.line (.seg sg)).Seats (s.seg sg).slot :=
  (h.line (.seg sg)).slot _ rfl

/-- A port that is not off is awake with the part. -/
theorem State.Sound.awake (h : s.Sound loose) (on : (s.port p).tx.state ≠ .off) : s.ledger.Awake := Ledger.Sound.awake h on

/-- A slot in use that is not FREE shows that its port is not off. -/
theorem State.Sound.on_of_slot (h : s.Sound loose) (free : (s.seg sg).slot ≠ .free) (used : (s.seg sg).slot ≠ .outOfUse) :
    (s.port (.seg sg)).tx.state ≠ .off := fun off => ((h.seats sg).stopped off).elim free used

/-- A port that is and stays up, with another receiver, transmitter, queue or lane. -/
theorem State.Sound.portOk (h : s.Sound loose) {x : PortState} (on : (s.port p).tx.state ≠ .off) (on' : x.tx.state ≠ .off)
    (enabled : x.enabled = (s.port p).enabled) (role : x.settings.role = (s.port p).settings.role)
    (muted : ∀ sg, p = .seg sg → x.tx.state.isSending = true → x.rx.state = .muted)
    (agrees : ∀ sg, p = .seg sg → (s.seg sg).slot.agreesWith x.tx.state = true) : (x.line (s.slotOf p)).Ok := by
  refine ⟨fun hd => ?_, fun off => absurd off on', ?_⟩
  · have up : x.enabled = true := enabled.trans (h.enabled on)
    exact absurd (up.symm.trans hd) (by simp)
  · rcases p with _ | sg
    · exact Line.seats_of_none rfl
    · rintro _ ⟨⟩
      obtain ⟨unused, _, _, _, tries⟩ := h.seats sg
      refine ⟨?_, fun off => absurd off on', muted sg rfl, agrees sg rfl, tries⟩
      show _ ↔ x.settings.role = _
      rw [role]
      exact unused

/-- A receiver replaced on a port that is up. -/
theorem State.Sound.withRx (h : s.Sound loose) {rx : Receiver} (on : (s.port p).tx.state ≠ .off)
    (muted : ∀ sg, p = .seg sg → (s.port p).tx.state.isSending = true → rx.state = .muted)
    (hc : ∀ b, rx.state.buffer.toList.count b + loose'.count b =
      (s.port p).rx.state.buffer.toList.count b + loose.count b) : (s.withRx p rx).Sound loose' := by
  refine h.withPort (h.portOk on on rfl rfl muted ?_) (.inr (h.awake on)) fun b => ?_
  · rintro sg rfl
    exact (h.seats sg).agrees
  · have := hc b
    simp only [PortState.holds, List.count_append]
    omega

/-- A queue replaced on a port that is up. -/
theorem State.Sound.withQueue (h : s.Sound loose) {q : TxQueue} (on : (s.port p).tx.state ≠ .off)
    (hc : ∀ b, q.buffers.count b + loose'.count b = (s.port p).queue.buffers.count b + loose.count b) :
    (s.withQueue p q).Sound loose' := by
  refine h.withPort (h.portOk on on rfl rfl ?_ ?_) (.inr (h.awake on)) fun b => ?_
  · rintro sg rfl
    exact (h.seats sg).muted
  · rintro sg rfl
    exact (h.seats sg).agrees
  · have := hc b
    simp only [TxQueue.buffers] at this
    simp only [PortState.holds, List.count_append]
    omega

/-- A reply lane changed on a port that is up. -/
theorem State.Sound.withLane (h : s.Sound loose) (on : (s.port p).tx.state ≠ .off) (r : Option Reply) :
    (s.withLane p r).Sound loose := by
  refine h.withPort (h.portOk on on rfl rfl ?_ ?_) (.inr (h.awake on)) fun b => rfl
  · rintro sg rfl
    exact (h.seats sg).muted
  · rintro sg rfl
    exact (h.seats sg).agrees

/-- A slot in use goes to another state of a slot in use, on a port that is up or to FREE. -/
theorem State.Sound.moveSlot (h : s.Sound loose) {sl : Slot} (used : (s.seg sg).slot ≠ .outOfUse) (used' : sl ≠ .outOfUse)
    (on : (s.port (.seg sg)).tx.state ≠ .off ∨ sl = .free) (agrees : sl.agreesWith (s.port (.seg sg)).tx.state = true)
    (tries : sl.Tries)
    (hc : ∀ b, sl.requestReference.toList.count b + loose'.count b =
      (s.seg sg).slot.requestReference.toList.count b + loose.count b) : (s.withSlot sg sl).Sound loose' := by
  obtain ⟨unused, _, muted, _, _⟩ := h.seats sg
  refine h.withSlot ⟨?_, fun off => .inl (on.resolve_left (not_not.mpr off)), muted, agrees, tries⟩ hc
  exact iff_of_false used' fun role => used (unused.mpr role)

/-! ### Queues and notices -/

theorem TxQueue.count_push (q : TxQueue) (d : Descriptor) (b : Nat) :
    (q.push d).buffers.count b = q.buffers.count b + [d.buffer].count b := by
  unfold TxQueue.push TxQueue.buffers
  cases d.priority <;> simp [List.count_cons] <;> omega

/-- A queue accepts only on a port that is up (R73). -/
theorem State.offerAnswer_accepted (h : s.offerAnswer p = .accepted) :
    (s.port p).enabled = true ∧ (s.port p).tx.state ≠ .off := by
  unfold State.offerAnswer at h
  split at h
  · nomatch h
  · rename_i hoff
    simpa [PortState.isOff] using hoff

/-- A reference in hand goes to a queue that has accepted it. -/
theorem State.Sound.enqueue {b : Nat} (h : s.Sound (b :: loose)) (ha : s.offerAnswer p = .accepted) (k : DescriptorKind)
    (pr : Priority) : (s.enqueue p b k pr).Sound loose := by
  refine State.Sound.withQueue h (State.offerAnswer_accepted ha).2 fun c => ?_
  simp only [TxQueue.count_push, List.count_cons, List.count_nil]
  omega

theorem State.Sound.buildNotice (h : s.Sound loose) (n : NoticeRequest) : (s.buildNotice n).Sound loose := by
  cases hm : s.pool.reserve with
  | none =>
    rw [State.buildNotice_noBuffer hm]
    exact h.congr (s.count_ledger _ _)
  | some bm =>
    obtain ⟨b, m⟩ := bm
    have written (bs : List Byte) : (s.withPool (m.writeFrame b bs)).Sound (b :: loose) := (h.reserve hm).congr rfl
    by_cases ha : s.offerAnswer n.origin = .accepted
    · rw [State.buildNotice_accepted hm ha]
      exact (written _).enqueue ha _ _
    · rw [State.buildNotice_refused hm ha]
      exact (written _).dropRef.congr (State.count_ledger _ _ _)

theorem State.Sound.noticeIf (h : s.Sound loose) (flag : Bool) (n : NoticeRequest) : (s.noticeIf flag n).Sound loose := by
  cases flag with
  | false => exact h
  | true => exact h.buildNotice n

/-! ### Exchanges -/

/-- A slot that waits for an answer or receives one, for the attempt of `q` (R94, R95). -/
def Slot.Waits (sl : Slot) (q : ExchangeRecord) : Prop := sl = .receiving q ∨ ∃ due, sl = .awaiting q due

theorem Slot.Waits.reference {sl : Slot} {q : ExchangeRecord} (h : sl.Waits q) : sl.requestReference = q.buffer := by
  rcases h with rfl | ⟨_, rfl⟩ <;> rfl

theorem Slot.Waits.used {sl : Slot} {q : ExchangeRecord} (h : sl.Waits q) : sl ≠ .free ∧ sl ≠ .outOfUse := by
  rcases h with rfl | ⟨_, rfl⟩ <;> simp

theorem Slot.Waits.attemptOk {sl : Slot} {q : ExchangeRecord} (h : sl.Waits q) (tries : sl.Tries) : q.attemptOk := by
  rcases h with rfl | ⟨_, rfl⟩ <;> exact tries.attempt q rfl

/-- A record left in LAPSED has a retry pending, or no buffer (R102, R103). -/
theorem Slot.agreesWith_lapsed {r : ExchangeRecord} {due : Nat} {tx : TxState} :
    (Slot.lapsed r due).agreesWith tx = true ↔ r.retryPending = true ∨ r.buffer = none := by
  cases tx with
  | sending cur n => cases cur <;> simp [Slot.agreesWith]
  | _ => simp [Slot.agreesWith]

theorem Slot.Tries.of_record {sl : Slot} {r : ExchangeRecord} (hr : sl.record = some r) (ok : r.attemptOk)
    (resend : ∀ q, sl ≠ .resend q) : sl.Tries := by
  refine ⟨?_, fun q e => absurd e (resend q)⟩
  rw [hr]
  rintro _ ⟨⟩
  exact ok

/-- A slot without a record tries nothing. -/
theorem Slot.Tries.of_none {sl : Slot} (hr : sl.record = none) : sl.Tries := by
  refine ⟨by simp [hr], fun q e => ?_⟩
  rw [e] at hr
  nomatch hr

/-- The outcome FAILED with the slot set first (R103). -/
theorem State.exchangeFailed_eq (s : State) (sg : Seg) (r : ExchangeRecord) :
    s.exchangeFailed sg r =
      ((((s.countExchange sg .failed).withSlot sg
          (.lapsed { r with buffer := none, retryPending := false } (s.timerDue (s.segSettings sg).lapseMillis))).dropRef?
            r.buffer).noticeIf r.notice (r.noticeRequest sg r.lastResult.reason)).raiseCause .exchange := by
  rw [State.exchangeFailed, (State.withSlot_ignoresAlert sg _).raiseCause, State.noticeIf_withSlot]
  cases r.buffer <;> rfl

/-- A failed attempt leaves the request with the slot for a retry, or drops it (R102, R103). -/
theorem State.Sound.failAttempt (h : s.Sound loose) {q r : ExchangeRecord} (waits : (s.seg sg).slot.Waits q)
    (buffer : r.buffer = q.buffer) (attempt : r.attempt = q.attempt) (retries : r.retries = q.retries) :
    (s.failAttempt sg r).Sound loose := by
  obtain ⟨free, used⟩ := waits.used
  obtain ⟨first, last, _⟩ := waits.attemptOk (h.seats sg).tries
  have on := h.on_of_slot free used
  rw [← attempt] at first last
  rw [← retries] at last
  have slot (k : ExchangeCounter) : ((s.countExchange sg k).seg sg).slot = (s.seg sg).slot := by simp
  unfold State.failAttempt
  split
  · rename_i more
    refine State.Sound.moveSlot (h.congr (by simp)) (by rwa [slot]) (by simp) (.inl on) rfl
      (.of_record rfl ⟨first, last, fun _ => more⟩ (by simp)) fun b => ?_
    rw [slot, waits.reference, ← buffer]
    rfl
  · rw [State.exchangeFailed_eq]
    have lapsed : ((s.countExchange sg .failed).withSlot sg (.lapsed { r with buffer := none, retryPending := false }
        (s.timerDue (s.segSettings sg).lapseMillis))).Sound (r.buffer.toList ++ loose) := by
      refine State.Sound.moveSlot (h.congr (by simp)) (by rwa [slot]) (by simp) (.inl on)
        (Slot.agreesWith_lapsed.mpr (.inr rfl)) (.of_record rfl ⟨first, last, nofun⟩ (by simp)) fun b => ?_
      rw [slot, waits.reference, ← buffer]
      simp [Slot.requestReference]
    exact (lapsed.dropRef?.noticeIf _ _).congr (State.raiseCause_ledger _ _)

theorem State.Sound.attemptBadReply (h : s.Sound loose) {r : ExchangeRecord} (hr : (s.seg sg).slot = .receiving r) :
    (s.attemptBadReply sg r).Sound loose :=
  State.Sound.failAttempt (q := r) (h.congr (by simp)) (.inl (by simpa using hr)) rfl rfl rfl

theorem State.Sound.attemptTimedOut (h : s.Sound loose) {r : ExchangeRecord} {due : Nat}
    (hr : (s.seg sg).slot = .awaiting r due) : (s.attemptTimedOut sg r).Sound loose :=
  State.Sound.failAttempt (q := r) (h.congr (by simp)) (.inr ⟨due, by simpa using hr⟩) rfl rfl rfl

theorem State.Sound.offerAnswerFrame {b : Nat} (h : s.Sound (b :: loose)) (sg : Seg) (r : ExchangeRecord) :
    (s.offerAnswerFrame sg r b).Sound loose := by
  unfold State.offerAnswerFrame
  split
  · rename_i ha
    exact h.enqueue ha _ _
  · exact (h.congr (t := s.count (.seg sg) .orphan) (by simp)).dropRef
  · exact (h.congr (t := s.count r.origin .qfull) (by simp)).dropRef

theorem State.offerAnswerFrame_seg (s : State) (sg : Seg) (r : ExchangeRecord) (b : Nat) (g : Seg) :
    (s.offerAnswerFrame sg r b).seg g = s.seg g := by
  unfold State.offerAnswerFrame
  split <;> rfl

/-- The answer goes on and the request is dropped (R98). -/
theorem State.Sound.exchangeReplied {b : Nat} (h : s.Sound (b :: loose)) {r : ExchangeRecord}
    (hr : (s.seg sg).slot = .receiving r) : (s.exchangeReplied sg r b).Sound loose := by
  have order : s.exchangeReplied sg r b =
      (((s.countExchange sg .replied).offerAnswerFrame sg r b).withSlot sg .free).dropRef? r.buffer := by
    rw [State.exchangeReplied]
    cases r.buffer <;> rfl
  have offered : ((s.countExchange sg .replied).offerAnswerFrame sg r b).Sound loose :=
    State.Sound.offerAnswerFrame (h.congr (by simp)) sg r
  have slot : (((s.countExchange sg .replied).offerAnswerFrame sg r b).seg sg).slot = .receiving r := by
    rw [State.offerAnswerFrame_seg, State.countExchange_seg_self]
    exact hr
  rw [order]
  refine State.Sound.dropRef? (offered.moveSlot (by simp [slot]) (by simp) (.inr rfl) rfl (.of_none rfl) fun c => ?_)
  simp [slot, Slot.requestReference]

theorem State.Sound.reportArrival (h : s.Sound loose) (p : Port) : (s.reportArrival p).Sound loose := by
  unfold State.reportArrival
  split
  · exact h
  · rename_i sg
    split
    · rename_i r due hslot
      have tries := (h.seats sg).tries
      rw [hslot] at tries
      refine h.moveSlot (by simp [hslot]) (by simp) (.inl (h.on_of_slot (by simp [hslot]) (by simp [hslot]))) rfl
        (.of_record rfl (tries.attempt r rfl) (by simp)) fun b => ?_
      simp [hslot, Slot.requestReference]
    · exact h

theorem State.Sound.reportDiscardEnd (h : s.Sound loose) (p : Port) : (s.reportDiscardEnd p).Sound loose := by
  unfold State.reportDiscardEnd
  split
  · exact h
  · split
    · rename_i hslot
      exact h.attemptBadReply hslot
    · exact h

/-! ### Classifier and dispatcher -/

theorem State.foldl_sound {α : Type} {f : State → α → State} (hf : ∀ s a, State.Sound s loose → State.Sound (f s a) loose)
    (l : List α) (h : s.Sound loose) : (l.foldl f s).Sound loose := by
  induction l generalizing s with
  | nil => exact h
  | cons a l ih => exact ih (hf s a h)

theorem State.Sound.forwardTo {b : Nat} (h : s.Sound (b :: loose)) (src : Port) (pr : Priority) (q : Port) :
    (s.forwardTo src b pr q).Sound (b :: loose) := by
  unfold State.forwardTo
  split
  · rename_i ha
    exact State.Sound.enqueue (h.addRef (by simp)) ha _ _
  · exact h.congr (by simp)
  · exact h.congr (by simp)

theorem State.Sound.dispatchExchange {b : Nat} (h : s.Sound (b :: loose)) (src : Port) (i : Nat) (sg : Seg) (pr : Priority)
    (n : Nat) (flag : Bool) : (s.dispatchExchange src b i sg pr n flag).Sound loose := by
  have refused (q : Port) (k : PortCounter) (x : NoticeRequest) :
      (((s.count q k).dropRef b).noticeIf flag x).Sound loose :=
    ((h.congr (t := s.count q k) (by simp)).dropRef).noticeIf _ _
  unfold State.dispatchExchange
  dsimp only
  split
  · split
    · rename_i ha
      exact h.enqueue ha _ _
    · exact refused _ _ _
    · exact refused _ _ _
  · exact refused _ _ _

theorem State.Sound.dispatch {b : Nat} (h : s.Sound (b :: loose)) (src : Port) (i : Nat) (a : Action) :
    (s.dispatch src b i a).Sound loose := by
  cases a with
  | drop => exact h.dropRef
  | forward targets pr => exact (State.foldl_sound (fun s q hs => hs.forwardTo src pr q) _ h).dropRef
  | exchange target pr retries notice => exact h.dispatchExchange src i target pr retries notice

theorem State.Sound.classify {b : Nat} (h : s.Sound (b :: loose)) (src : Port) : (s.classify src b).Sound loose := by
  unfold State.classify
  split
  · exact (h.congr (t := s.count src .unmatched) (by simp)).dropRef
  · exact State.Sound.dispatch (h.congr (s.withRules_ledger _)) src _ _

end

end Sys2Proof.Machine
end

section
/-! SUPPORT. Starts of transmissions and idle points keep the laws of the holders (R5, R6, R13, R81, R92, R93, R106). -/

namespace Sys2Proof.Machine

/-! ### Starts of transmissions -/

/-- A slot that agrees with a transmitter that does not send agrees with any. -/
theorem Slot.agreesWith_any {sl : Slot} {tx : TxState} (h : sl.agreesWith tx = true) (ht : tx.isSending = false) (tx' : TxState) :
    sl.agreesWith tx' = true := by
  cases sl with
  | sendingExchange r => cases tx <;> simp [TxState.isSending, Slot.agreesWith] at ht h
  | lapsed r due => exact Slot.agreesWith_lapsed.mpr (Slot.agreesWith_lapsed.mp h)
  | _ => rfl

theorem TxState.isSending_false {tx : TxState} (h : tx = .idle ∨ tx = .waiting) : tx.isSending = false := by
  rcases h with rfl | rfl <;> rfl

theorem TxState.reference_none {tx : TxState} (h : tx.isSending = false) : tx.reference = none := by
  cases tx <;> simp [TxState.isSending, TxState.reference] at h ⊢

/-- The buffers a port holds, by its parts. -/
theorem PortState.count_holds (x : PortState) (b : Nat) :
    x.holds.count b = x.rx.state.buffer.toList.count b + x.queue.buffers.count b + x.tx.state.reference.toList.count b := by
  have line := x.holds_line none
  simp only [Option.bind_none, Option.toList_none, List.append_nil] at line
  rw [← line]
  simp [Line.holds, PortState.line, Nat.add_assoc]

theorem Ledger.mem_holds {v : Ledger} {p : Port} {b : Nat} (h : b ∈ (v.line p).holds) : b ∈ v.holds :=
  List.mem_append_left _ (List.mem_flatMap.mpr ⟨p, p.mem_list, h⟩)

section
variable {s : State} {loose loose' : List Nat} {p : Port} {sg : Seg}

/-- A transmitter that begins to send takes the reference of its frame (R81). -/
theorem State.Sound.startSending {cur : Current} (h : s.Sound (cur.buffer.toList ++ loose))
    (htx : (s.port p).tx.state = .idle ∨ (s.port p).tx.state = .waiting)
    (hrx : ∀ sg, p = .seg sg → (s.port p).rx.state = .idle) : (s.startSending p cur).Sound loose := by
  have on : (s.port p).tx.state ≠ .off := by rcases htx with e | e <;> simp [e]
  have still := TxState.isSending_false htx
  refine h.withPort (h.portOk on nofun rfl rfl ?_ ?_) (.inr (h.awake on)) fun b => ?_
  · rintro sg rfl _
    rfl
  · rintro sg rfl
    exact Slot.agreesWith_any (h.seats sg).agrees still _
  · have rx : (mutedReceiver p (s.port p).rx).state.buffer = (s.port p).rx.state.buffer := by
      rcases p with _ | sg
      · rfl
      · rw [hrx sg rfl]
        rfl
    rw [PortState.count_holds, PortState.count_holds, TxState.reference_none still, List.count_append]
    dsimp only [TxState.reference]
    rw [rx]
    simp
    omega

theorem TxQueue.count_grant {q rest : TxQueue} {d : Descriptor} (h : q.grant = some (.take d rest)) (b : Nat) :
    q.buffers.count b = rest.buffers.count b + [d.buffer].count b := by
  unfold TxQueue.grant at h
  split at h
  · nomatch h
  · rename_i hu hn
    cases h
    simp [TxQueue.buffers, hu, hn, List.count_cons]
  · rename_i hu hn
    cases h
    simp [TxQueue.buffers, hu, hn, List.count_cons]
  · rename_i hu hn
    split at h <;> cases h <;> simp [TxQueue.buffers, hu, hn, List.count_cons]
    omega

theorem State.choice_take {d : Descriptor} {rest : TxQueue} (h : s.choice p = some (.take d rest)) :
    s.retryWaiting p = none ∧ (s.port p).queue.grant = some (.take d rest) := by
  unfold State.choice at h
  split at h
  · nomatch h
  · rename_i hr
    refine ⟨hr, ?_⟩
    split at h
    · nomatch h
    · split at h
      · nomatch h
      · exact h

/-- A FIELD segment that may start and has no retry waiting has a FREE slot (R15, R78). -/
theorem State.slot_free_of_start (hstart : s.startCondition (.seg sg) = true) (hretry : s.retryWaiting (.seg sg) = none)
    (role : (s.segSettings sg).role = .field) : (s.seg sg).slot = .free := by
  obtain ⟨_, _, hslot⟩ := State.startCondition_iff.mp hstart sg rfl
  rcases hslot with uplink | free | ⟨r, hr⟩
  · have field : (s.port (.seg sg)).settings.role = .field := role
    rw [field] at uplink
    nomatch uplink
  · exact free
  · simp [State.retryWaiting, role, hr] at hretry

/-- A FREE slot on a FIELD segment hears what has been taken (R92, R93): an exchange opens with the descriptor's buffer at the
transmitter, or no answer is expected. -/
theorem State.Sound.reportTake (h : s.Sound loose) {d : Descriptor} {since : Nat}
    (hslot : ∀ sg, p = .seg sg → (s.segSettings sg).role = .field → (s.seg sg).slot = .free)
    (htx : (s.port p).tx.state = .sending (.descriptor d) since) : (s.reportTake p d).Sound loose := by
  rcases p with _ | sg
  · exact h
  · cases role : (s.segSettings sg).role with
    | uplink =>
      rw [State.reportTake_uplink s sg d role]
      exact h
    | field =>
      have free := hslot sg rfl role
      have on : (s.port (.seg sg)).tx.state ≠ .off := by simp [htx]
      have ledger (x : SegState) : (s.withSeg sg x).ledger = (s.withSlot sg x.slot).ledger := by
        simp [State.withSlot, State.withSeg_ledger]
      rw [State.reportTake_field s sg d role]
      refine State.Sound.congr ?_ (ledger _)
      by_cases hx : ∃ x, d.kind = .exchange x
      · obtain ⟨x, hx⟩ := hx
        rw [State.told_exchange s sg hx]
        refine h.moveSlot (by simp [free]) (by simp) (.inl on) ?_ (.of_record rfl ?_ (by simp)) fun b => ?_
        · rw [htx]
          simp [Slot.agreesWith, State.openedRecord, hx]
        · exact ⟨Nat.le_refl 1, Nat.le_add_right 1 _, fun e => absurd e (by simp [State.openedRecord])⟩
        · simp [free, Slot.requestReference, State.openedRecord]
      · rw [State.told_noAnswer s sg (fun x e => hx ⟨x, e⟩)]
        exact h.moveSlot (by simp [free]) (by simp) (.inl on) rfl (.of_none rfl) fun b => by simp [free, Slot.requestReference]

/-- A retry goes out with a reference of its own beside the slot's (R81, R106). -/
theorem State.Sound.startRetry (h : s.Sound loose) {r : ExchangeRecord} (hslot : (s.seg sg).slot = .resend r)
    (htx : (s.port (.seg sg)).tx.state = .idle ∨ (s.port (.seg sg)).tx.state = .waiting)
    (hrx : (s.port (.seg sg)).rx.state = .idle) : (s.startRetry (.seg sg) r).Sound loose := by
  cases hb : r.buffer with
  | none =>
    have none : s.startRetry (.seg sg) r = s := by simp only [State.startRetry, hb]
    rwa [none]
  | some b =>
    have tries := (h.seats sg).tries
    rw [hslot] at tries
    obtain ⟨first, _, more⟩ := tries.attempt r rfl
    have order : s.startRetry (.seg sg) r =
        ((s.withPool (s.pool.addRef b)).startSending (.seg sg) (.retry b)).withSlot sg
          (.sendingExchange { r with attempt := r.attempt + 1, retryPending := false }) := by
      simp only [State.startRetry, hb]
      rfl
    have held : b ∈ s.ledger.holds := by
      refine Ledger.mem_holds (p := .seg sg) ?_
      show b ∈ (s.line (.seg sg)).holds
      rw [State.line, PortState.holds_line]
      simp [State.slotOf, hslot, Slot.requestReference, hb]
    have added : (s.withPool (s.pool.addRef b)).Sound ((Current.retry b).buffer.toList ++ loose) :=
      h.addRef (List.mem_append_left _ held)
    have sent := added.startSending (p := .seg sg) htx fun _ _ => hrx
    have tx : (((s.withPool (s.pool.addRef b)).startSending (.seg sg) (.retry b)).port (.seg sg)).tx.state =
        .sending (.retry b) s.now := by
      simp [State.startSending]
    have slot : (((s.withPool (s.pool.addRef b)).startSending (.seg sg) (.retry b)).seg sg).slot = .resend r := hslot
    rw [order]
    refine sent.moveSlot (by simp [slot]) (by simp) (.inl (by simp [tx])) ?_
      (.of_record rfl ⟨Nat.le_add_left 1 _, ?_, nofun⟩ (by simp)) fun c => ?_
    · rw [tx]
      simp [Slot.agreesWith, hb]
      omega
    · have := more (tries.resend r rfl)
      show r.attempt + 1 ≤ 1 + r.retries
      omega
    · rw [slot]
      have later : ¬ r.attempt + 1 ≤ 1 := by omega
      simp only [Slot.requestReference, if_neg later]

theorem State.Sound.begin (h : s.Sound loose) {c : Choice} (hc : s.choice p = some c)
    (htx : (s.port p).tx.state = .idle ∨ (s.port p).tx.state = .waiting) (hstart : s.startCondition p = true) :
    (s.begin p c).Sound loose := by
  have hrx : ∀ sg, p = .seg sg → (s.port p).rx.state = .idle := by
    rintro sg rfl
    exact State.startCondition_rx hstart (by simp)
  cases c with
  | retry r =>
    obtain ⟨sg, rfl, _, hslot⟩ := State.retryWaiting_some (State.choice_retry hc)
    exact h.startRetry hslot htx (hrx sg rfl)
  | reply => exact State.Sound.startSending (cur := .reply) h htx hrx
  | alert => exact State.Sound.startSending (cur := .alert) h htx hrx
  | take d rest =>
    obtain ⟨hretry, hgrant⟩ := State.choice_take hc
    have on : (s.port p).tx.state ≠ .off := by rcases htx with e | e <;> simp [e]
    have taken : (s.withQueue p rest).Sound ((Current.descriptor d).buffer.toList ++ loose) := by
      refine h.withQueue on fun b => ?_
      rw [TxQueue.count_grant hgrant, List.count_append, Nat.add_assoc]
      rfl
    have sent := taken.startSending (p := p) (by simpa using htx) (by simpa using hrx)
    refine sent.reportTake (since := s.now) ?_ (by simp [State.startSending])
    · rintro sg rfl role
      have free : (s.seg sg).slot = .free :=
        State.slot_free_of_start hstart hretry (by simpa [State.segSettings, State.startSending] using role)
      exact free

theorem State.Sound.startPort (h : s.Sound loose) (p : Port) : (s.startPort p).Sound loose := by
  by_cases htx : (s.port p).tx.state = .idle ∨ (s.port p).tx.state = .waiting
  · cases hc : s.choice p with
    | none =>
      rw [State.startPort_none (.inr (.inr hc))]
      exact h
    | some c =>
      rw [State.startPort_choice htx hc]
      split
      · rename_i hstart
        exact h.begin hc htx hstart
      · have on : (s.port p).tx.state ≠ .off := by rcases htx with e | e <;> simp [e]
        have still := TxState.isSending_false htx
        refine h.withPort (h.portOk on nofun rfl rfl nofun ?_) (.inr (h.awake on)) fun b => ?_
        · rintro sg rfl
          exact Slot.agreesWith_any (h.seats sg).agrees still _
        · rw [PortState.count_holds, PortState.count_holds, TxState.reference_none still]
          rfl
  · rw [State.startPort_none ?_]
    · exact h
    · cases e : (s.port p).tx.state with
      | off => exact .inl rfl
      | sending c n => exact .inr (.inl ⟨c, n, rfl⟩)
      | idle => exact absurd (.inl e) htx
      | waiting => exact absurd (.inr e) htx

/-! ### Idle points -/

theorem Slot.requestReference_forRole (r : Role) : (Slot.forRole r).requestReference = none := by cases r <;> rfl

/-- An IDLE port with the slot of its role. -/
theorem PortState.line_forRole_ok {x : PortState} (up : x.enabled = true) (idle : x.tx.state = .idle) :
    (x.line (some (Slot.forRole x.settings.role))).Ok := by
  refine ⟨fun hd => absurd (up.symm.trans hd) (by simp), fun off => ?_, ?_⟩
  · exact absurd (idle.symm.trans off) (by simp)
  · rintro _ ⟨⟩
    refine ⟨?_, fun off => absurd (idle.symm.trans off) (by simp), fun sending => ?_, ?_, ?_⟩
    · show _ ↔ x.settings.role = _
      cases x.settings.role <;> simp [Slot.forRole]
    · rw [PortState.line, idle] at sending
      nomatch sending
    · cases x.settings.role <;> rfl
    · cases x.settings.role <;> exact .of_none rfl

/-- A port comes up, or goes on, IDLE with a record, and the segment's slot by the record's role (R6, R18, R87). -/
theorem State.Sound.place (h : s.Sound loose) (awake : s.ledger.Awake) {x : PortState} (up : x.enabled = true)
    (idle : x.tx.state = .idle) (slot : ∀ sg, p = .seg sg → (s.seg sg).slot.requestReference = none)
    (hc : ∀ b, x.holds.count b = (s.port p).holds.count b) :
    ((s.withPort p x).slotForRole p x.settings.role).Sound loose := by
  have ok := PortState.line_forRole_ok up idle
  rcases p with _ | sg
  · exact h.withPort ⟨ok.disabled, ok.off, Line.seats_of_none rfl⟩ (.inr awake) fun b => by rw [hc b]
  · refine h.withPortSlot ok (.inr awake) fun b => ?_
    rw [hc b, slot sg rfl, Slot.requestReference_forRole]

theorem State.Sound.applyPending (h : s.Sound loose) (p : Port) : (s.applyPending p).Sound loose := by
  unfold State.applyPending
  split
  · exact h
  · rename_i st _
    split
    · rename_i hidle
      obtain ⟨up, _, tx, _, hslot, _⟩ := (s.atIdlePoint_iff p st).mp hidle
      refine h.place (x := { s.port p with settings := st, pendingSettings := none }) (h.awake (p := p) (by simp [tx])) up tx ?_
        fun b => rfl
      rintro sg rfl
      rcases hslot sg rfl with uplink | free
      · rw [(h.seats sg).unused.mpr uplink]
        rfl
      · rw [free]
        rfl
    · exact h

/-- What may follow within an event keeps the laws. -/
theorem State.Sound.followUp (h : s.Sound loose) : s.followUp.Sound loose :=
  State.foldl_sound (fun _ p hs => hs.applyPending p) _ (State.foldl_sound (fun _ p hs => hs.startPort p) _ h)

theorem State.Sound.finish (h : s.Sound loose) : s.finish.Sound loose := (h.congr s.formAlert_ledger).followUp

end

end Sys2Proof.Machine
end

section
/-! SUPPORT. Frame assembly and completion keep the laws of the holders: a reserved buffer goes to the receiver, and at completion
to whoever takes the frame (R24 to R36, R100, R119, R120). -/

namespace Sys2Proof.Machine

section
variable {s : State} {loose loose' : List Nat} {p : Port}

/-! ### Receivers -/

/-- A port whose receiver watches the line is up, and on a segment it does not send (R12). -/
theorem State.Sound.listens (h : s.Sound loose) (hrx : (s.port p).rx.state.watches = true) :
    (s.port p).tx.state ≠ .off ∧ ∀ sg, p = .seg sg → (s.port p).tx.state.isSending ≠ true := by
  refine ⟨fun off => ?_, ?_⟩
  · have rx : (s.port p).rx = Receiver.fresh .off := ((h.line p).off off).1
    rw [rx] at hrx
    nomatch hrx
  · rintro sg rfl sending
    have muted : (s.port (.seg sg)).rx.state = .muted := (h.seats sg).muted sending
    rw [muted] at hrx
    nomatch hrx

/-- A receiver that watches the line replaced. -/
theorem State.Sound.newRx (h : s.Sound loose) {st : RxState} (hst : (s.port p).rx.state = st) (hrx : st.watches = true)
    {rx : Receiver}
    (hc : ∀ b, rx.state.buffer.toList.count b + loose'.count b = st.buffer.toList.count b + loose.count b) :
    (s.withRx p rx).Sound loose' := by
  subst hst
  obtain ⟨on, still⟩ := h.listens hrx
  exact h.withRx on (fun sg hp sending => absurd sending (still sg hp)) hc

/-! ### What becomes of a completed frame -/

/-- The agent's input queue replaced. -/
theorem State.Sound.withInput (h : s.Sound loose) (awake : s.ledger.Awake) {a : Agent}
    (hc : ∀ b, (a.input.map (·.buffer)).count b + loose'.count b =
      (s.agent.input.map (·.buffer)).count b + loose.count b) : (s.withAgent a).Sound loose' :=
  Ledger.Sound.setInput h awake hc

theorem State.Sound.takeManagementFrame {b : Nat} (h : s.Sound (b :: loose)) (awake : s.ledger.Awake) :
    (s.takeManagementFrame p b).Sound loose := by
  have ledger := s.reportManagement_ledger p
  have reported : (s.reportManagement p).Sound (b :: loose) := h.congr ledger
  unfold State.takeManagementFrame State.joinInput
  split
  · refine reported.withInput (by rwa [ledger]) fun c => ?_
    simp only [List.map_append, List.map_cons, List.map_nil, List.count_append, List.count_cons, List.count_nil]
    omega
  · exact State.Sound.dropRef (reported.congr (State.count_ledger _ _ _))

theorem State.Sound.dropOrFailAttempt {b : Nat} (h : s.Sound (b :: loose)) (p : Port) :
    (s.dropOrFailAttempt p b).Sound loose := by
  unfold State.dropOrFailAttempt
  split
  · exact h.dropRef
  · split
    · rename_i hslot
      exact h.dropRef.attemptBadReply hslot
    · exact h.dropRef

theorem State.Sound.routeErrored {b : Nat} (h : s.Sound (b :: loose)) (p : Port) (e : ErrorSet) (stamp : Stamp) :
    (s.routeErrored p b e stamp).Sound loose :=
  State.Sound.dropOrFailAttempt (h.congr (by simp)) p

theorem State.Sound.routeOrdinary {b : Nat} (h : s.Sound (b :: loose)) (awake : s.ledger.Awake) :
    (s.routeOrdinary p b).Sound loose := by
  unfold State.routeOrdinary
  split
  · exact h.takeManagementFrame awake
  · exact h.classify p

theorem State.Sound.routeClean {b : Nat} (h : s.Sound (b :: loose)) (awake : s.ledger.Awake) (p : Port) :
    (s.routeClean p b).Sound loose := by
  unfold State.routeClean
  split
  · exact h.routeOrdinary awake
  · split
    · rename_i hslot
      unfold State.judgeAnswer
      split
      · exact h.exchangeReplied hslot
      · exact h.dropRef.attemptBadReply hslot
    · unfold State.judgeLate
      split
      · exact State.Sound.dropRef (h.congr (State.countExchange_ledger _ _ _))
      · exact h.classify _
    · exact h.routeOrdinary awake

/-- A frame that completes leaves its buffer to whoever takes it (R28 to R34). -/
theorem State.Sound.complete {f : Assembly} (h : s.Sound (f.buffer :: loose)) (awake : s.ledger.Awake) (p : Port) :
    (s.complete p f).Sound loose := by
  have ledger : ((s.withPool (s.pool.setLength f.buffer f.length)).count p .rxframes).ledger = s.ledger := by
    rw [State.count_ledger, State.setLength_ledger]
  unfold State.complete
  dsimp only
  split
  · exact State.Sound.routeClean (h.congr ledger) (by rwa [ledger]) p
  · exact State.Sound.routeErrored (h.congr ledger) p _ _

/-- A receiver that gives up its frame, which completes. -/
theorem State.Sound.completeFrom (h : s.Sound loose) {st : RxState} {f g : Assembly} {rx : Receiver}
    (hst : (s.port p).rx.state = st) (hrx : st = .assembling f ∨ st = .discarding (.overlength f))
    (hg : g.buffer = f.buffer) (new : rx.state.buffer = none) : ((s.withRx p rx).complete p g).Sound loose := by
  have watches : st.watches = true := by rcases hrx with rfl | rfl <;> rfl
  have buffer : st.buffer = some f.buffer := by rcases hrx with rfl | rfl <;> rfl
  have free : (s.withRx p rx).Sound (g.buffer :: loose) := by
    refine h.newRx hst watches fun b => ?_
    rw [new, buffer, hg]
    simp only [Option.toList_none, Option.toList_some, List.count_cons, List.count_nil]
    omega
  have on : ((s.withRx p rx).port p).tx.state ≠ .off := by
    rw [State.withRx_port_self]
    exact (h.listens (hst ▸ watches)).1
  exact free.complete (free.awake on) p

/-! ### The line commands -/

theorem State.Sound.arriveIdle (h : s.Sound loose) (hrx : (s.port p).rx.state = .idle) : (s.arriveIdle p).Sound loose := by
  unfold State.arriveIdle
  dsimp only
  split
  · rename_i b m hm
    refine State.Sound.reportArrival (State.Sound.newRx (h.reserve hm) (st := .idle) hrx rfl fun c => ?_) p
    simp [Receiver.fresh, RxState.buffer, List.count_cons]
    omega
  · have refused : (s.withRx p ⟨.discarding .refused, none, false, some s.now⟩).Sound loose := h.newRx hrx rfl fun _ => rfl
    exact (State.Sound.reportArrival (refused.congr (by simp)) p).finish

theorem State.Sound.arrive (h : s.Sound loose) (p : Port) : (s.arrive p).Sound loose := by
  unfold State.arrive
  dsimp only
  split
  · exact h
  · split
    · exact h
    · exact h
    · rename_i hrx
      exact h.arriveIdle hrx
    · rename_i hrx
      exact h.newRx hrx rfl fun b => by rw [hrx]
    · rename_i hrx
      exact h.newRx hrx rfl fun b => by rw [hrx]

theorem State.Sound.takeCharacter (h : s.Sound loose) (p : Port) (data : Byte) (parity framing : Bool) (t : Nat) :
    (s.takeCharacter p data parity framing t).Sound loose := by
  unfold State.takeCharacter
  split
  · exact h
  · exact h
  · exact h
  · rename_i f hrx
    refine State.Sound.congr ?_ (State.guardFromCharacter_ledger _ _ _)
    unfold State.assemble
    split
    · have stored : (s.withPool (s.pool.store f.buffer f.length data)).Sound loose := h.congr rfl
      exact stored.newRx (st := .assembling f) hrx rfl fun _ => rfl
    · exact h.newRx hrx rfl fun _ => rfl
  all_goals
    rename_i hrx
    exact (h.newRx hrx rfl fun _ => rfl).congr (State.guardFromCharacter_ledger _ _ _)

theorem State.Sound.receive (h : s.Sound loose) (p : Port) (data : Byte) (parityBit stopBit : Bool) :
    (s.receive p data parityBit stopBit).Sound loose := by
  unfold State.receive
  dsimp only
  split
  · exact h
  · rename_i hrx
    simp only [Bool.or_eq_true, Bool.not_eq_true', not_or, Bool.not_eq_false] at hrx
    split
    · have watches : (s.port p).rx.state.watches = true := by
        rcases RxState.takesCharacters_iff.mp hrx.2 with ⟨f, e⟩ | ⟨d, e⟩ <;> rw [e] <;> rfl
      exact h.newRx rfl watches fun _ => rfl
    · exact h.takeCharacter p _ _ _ _

theorem State.Sound.releaseHeld (h : s.Sound loose) (p : Port) : (s.releaseHeld p).Sound loose := by
  unfold State.releaseHeld
  split
  · exact h
  · exact h.takeCharacter p _ _ _ _

theorem Assembly.broken_buffer (f : Assembly) (stamp : Stamp) : (f.broken stamp).buffer = f.buffer := by
  unfold Assembly.broken
  split <;> rfl

theorem State.Sound.declareBreak (h : s.Sound loose) (p : Port) : (s.declareBreak p).Sound loose := by
  unfold State.declareBreak
  split
  · exact h
  · split
    · exact h
    · exact h
    · exact h
    · rename_i f hrx
      have stored : (s.storeBreakByte f).Sound loose ∧ ((s.storeBreakByte f).port p).rx.state = .assembling f := by
        unfold State.storeBreakByte
        split
        · exact ⟨h.congr rfl, hrx⟩
        · exact ⟨h, hrx⟩
      exact (stored.1.completeFrom stored.2 (.inl rfl) (f.broken_buffer _) rfl).finish
    · rename_i f hrx
      exact (h.completeFrom hrx (.inr rfl) (f.broken_buffer _) rfl).finish
    · rename_i hrx
      exact h.newRx hrx rfl fun _ => rfl
    · rename_i hrx
      exact h.newRx hrx rfl fun _ => rfl

theorem State.Sound.lineHigh (h : s.Sound loose) (p : Port) : (s.lineHigh p).Sound loose := by
  unfold State.lineHigh
  split
  · rename_i low
    refine h.withRx (fun off => ?_) ?_ fun _ => rfl
    · have rx : (s.port p).rx = Receiver.fresh .off := ((h.line p).off off).1
      rw [rx] at low
      nomatch low
    · rintro sg rfl sending
      exact (h.seats sg).muted sending
  · exact h

theorem State.Sound.gapExpires (h : s.Sound loose) (p : Port) : (s.gapExpires p).Sound loose := by
  unfold State.gapExpires
  split
  · split
    · exact h
    · exact h
    · exact h
    · rename_i hrx
      exact (h.completeFrom hrx (.inl rfl) rfl rfl).finish
    · rename_i hrx
      exact (h.completeFrom hrx (.inr rfl) rfl rfl).finish
    · rename_i hrx
      have idle : (s.withRx p (Receiver.fresh .idle)).Sound loose := h.newRx hrx rfl fun _ => rfl
      exact (idle.reportDiscardEnd p).finish
    · rename_i hrx
      exact (h.newRx hrx rfl fun _ => rfl).finish
  · exact h

end

end Sys2Proof.Machine
end

section
/-! SUPPORT. Resets and the start-up load bring about the laws of the holders from any state, since they leave no holder (R20,
R21, R41, R42, R185). -/

namespace Sys2Proof.Machine

/-! ### A part without holders -/

/-- The slot of a role sits beside any transmitter that does not send (R87). -/
theorem Line.seats_forRole {x : Line} (h : x.tx.isSending = false) : x.Seats (Slot.forRole x.role) := by
  refine ⟨?_, fun _ => ?_, fun sending => absurd (h.symm.trans sending) (by simp), ?_, ?_⟩
  · cases x.role <;> simp [Slot.forRole]
  · cases x.role <;> simp [Slot.forRole]
  · cases x.role <;> rfl
  · cases x.role <;> exact .of_none rfl

/-- A port that is off, or IDLE and enabled, with everything stopped and empty and its slot as its role says (R19, R87). -/
structure Line.Rests (x : Line) : Prop where
  mode : x.tx = .off ∧ x.rx = Receiver.fresh .off ∨ x.enabled = true ∧ x.tx = .idle ∧ x.rx = Receiver.fresh .idle
  queue : x.queue = TxQueue.empty
  lane : x.lane = none
  slot : ∀ sl ∈ x.slot, sl = Slot.forRole x.role

theorem Line.Rests.silent {x : Line} (h : x.Rests) : x.tx.isSending = false := by
  rcases h.mode with ⟨tx, _⟩ | ⟨_, tx, _⟩ <;> rw [tx] <;> rfl

theorem Line.Rests.ok {x : Line} (h : x.Rests) : x.Ok := by
  refine ⟨fun disabled => ?_, fun off => ?_, fun sl hsl => ?_⟩
  · rcases h.mode with ⟨tx, _⟩ | ⟨up, _⟩
    · exact tx
    · exact absurd (up.symm.trans disabled) (by simp)
  · rcases h.mode with ⟨_, rx⟩ | ⟨_, tx, _⟩
    · exact ⟨rx, h.queue, h.lane⟩
    · exact absurd (tx.symm.trans off) (by simp)
  · rw [h.slot sl hsl]
    exact Line.seats_forRole h.silent

theorem Line.Rests.holds {x : Line} (h : x.Rests) : x.holds = [] := by
  have slot : x.slot.bind Slot.requestReference = none := by
    cases hs : x.slot with
    | none => rfl
    | some sl =>
      rw [h.slot sl hs]
      exact Slot.requestReference_forRole x.role
  rw [Line.holds, TxState.reference_none h.silent, h.queue, slot]
  rcases h.mode with ⟨_, rx⟩ | ⟨_, _, rx⟩ <;> rw [rx] <;> rfl

/-- A port that is off and keeps its laws rests. -/
theorem Line.Ok.rests {x : Line} (h : x.Ok) (off : x.tx = .off) : x.Rests := by
  obtain ⟨rx, queue, lane⟩ := h.off off
  refine ⟨.inl ⟨off, rx⟩, queue, lane, fun sl hsl => ?_⟩
  obtain ⟨unused, stopped, _, _, _⟩ := h.slot sl hsl
  rcases stopped off with free | out
  · cases role : x.role with
    | field => exact free
    | uplink => exact unused.mpr role
  · rw [unused.mp out, out]
    rfl

/-- A pool none of whose buffers is in use, ports at rest, and no command waiting. -/
theorem Ledger.Sound.of_rests {v : Ledger} (lawful : v.pool.lawful) (zero : ∀ b < Config.poolBuffers, v.pool.refCount b = 0)
    (line : ∀ p, (v.line p).Rests) (input : v.input = []) (quiet : v.Awake ∨ ∀ p, (v.line p).tx = .off)
    (held : v.held = true → v.store = .idle) : v.Sound [] := by
  have holds : v.holds = [] := by simp [Ledger.holds, (line _).holds, input]
  refine ⟨lawful, fun b hb => ?_, fun p => (line p).ok, quiet.imp_right fun off => ⟨off, input⟩, held⟩
  rw [zero b hb, holds]
  rfl

/-- A part with every port off and at rest, no command waiting and a fresh pool keeps the laws. -/
theorem State.Sound.of_stopped {s : State} {m : Pool} {w : Nat} (pool : s.pool.counts = (m.afresh w).counts)
    (line : ∀ p, (s.line p).Rests ∧ (s.line p).tx = .off) (input : s.agent.input = [])
    (held : s.heldInReset = true → s.store.state = .idle) : s.Sound [] := by
  refine Ledger.Sound.of_rests ?_ (fun b _ => ?_) (fun p => (line p).1) (by simp [State.ledger, input])
    (.inr fun p => (line p).2) held
  · show s.pool.counts.lawful
    rw [pool]
    exact Pool.lawful_congr rfl rfl (Pool.lawful_afresh m w)
  · show s.pool.counts.refCount b = 0
    rw [pool]
    exact Pool.refCount_afresh m w b

/-! ### Resets of the cold kinds -/

section
variable (s : State)

theorem State.coldWipe_line (k : ResetCause) (p : Port) :
    ((s.coldWipe k).line p).Rests ∧ ((s.coldWipe k).line p).tx = .off := by
  cases p with
  | trunk => exact ⟨⟨.inl ⟨rfl, rfl⟩, rfl, rfl, by simp [State.line, State.slotOf, PortState.line]⟩, rfl⟩
  | seg sg =>
    have line : (s.coldWipe k).line (.seg sg) = (PortState.stopped factorySegment).line (some SegState.wiped.slot) := by
      cases sg <;> rfl
    rw [line]
    refine ⟨⟨.inl ⟨rfl, rfl⟩, rfl, rfl, ?_⟩, rfl⟩
    rintro _ ⟨⟩
    rfl

/-- The part wiped by a reset that is held. -/
theorem State.wiped_sound (k : ResetCause) (supply : Supply) (pinHeld : Bool) : (s.wiped k supply pinHeld).Sound [] :=
  State.Sound.of_stopped (m := s.pool) rfl (s.coldWipe_line k) rfl fun _ => rfl

theorem State.coldReset_sound (h : s.heldInReset = false) : s.coldReset.Sound [] := by
  refine State.Sound.of_stopped (m := s.pool) rfl (s.coldWipe_line .cold) rfl fun held => ?_
  exact absurd (h.symm.trans held) (by simp)

theorem State.supplyLost_sound : s.supplyLost.Sound [] :=
  State.Sound.of_stopped (m := ⟨[], [], List.replicate Config.poolBuffers 0, [], 0⟩) rfl (s.coldWipe_line .power) rfl fun _ => rfl

end

/-! ### The cut of a frame -/

section
variable {s : State} {p : Port}

@[simp] theorem State.dropRef?_port (s : State) (b : Option Nat) (q : Port) : (s.dropRef? b).port q = s.port q := by
  cases b <;> rfl

@[simp] theorem State.dropRef?_seg (s : State) (b : Option Nat) (sg : Seg) : (s.dropRef? b).seg sg = s.seg sg := by
  cases b <;> rfl

/-- A transmitter that is made to stop drops the reference of its frame (R19, R83). -/
theorem State.abortSending_eq (s : State) (p : Port) :
    ∃ drain counters, s.abortSending p =
      (s.withPort p { s.port p with tx := ⟨.off, drain⟩, counters := counters }).dropRef? (s.port p).tx.state.reference := by
  unfold State.abortSending
  cases h : (s.port p).tx.state with
  | sending cur since =>
    refine ⟨s.characterInProgress p cur since, (s.port p).counters.bump .aborted, ?_⟩
    dsimp only [TxState.reference]
    rw [State.count, State.withTx_port_self, State.withTx, State.withPort_withPort]
  | _ => exact ⟨(s.port p).tx.drain, (s.port p).counters, rfl⟩

/-! ### The WARM reset -/

/-- A fold brings about for each item what each of its steps brings about and no step undoes. -/
theorem State.foldl_brings {α : Type} {f : State → α → State} {made : State → α → Prop} (makes : ∀ s a, made (f s a) a)
    (keeps : ∀ s a b, made s b → made (f s a) b) (l : List α) (s : State) : ∀ a ∈ l, made (l.foldl f s) a := by
  induction l generalizing s with
  | nil => simp
  | cons a l ih =>
    have kept (t : State) (h : made t a) : made (l.foldl f t) a := by
      clear ih
      induction l generalizing t with
      | nil => exact h
      | cons b l ih => exact ih _ (keeps t b a h)
    exact List.forall_mem_cons.mpr ⟨kept _ (makes s a), ih _⟩

/-- A port that has been stopped by a WARM reset (R21, R85). -/
structure PortState.Emptied (x : PortState) : Prop where
  rx : x.rx = Receiver.fresh .off
  tx : x.tx.state = .off
  queue : x.queue = TxQueue.empty
  lane : x.lane = none

theorem State.warmPort_emptied (s : State) (p : Port) : ((s.warmPort p).port p).Emptied := by
  obtain ⟨drain, counters, e⟩ := s.abortSending_eq p
  rw [State.warmPort, e]
  dsimp only
  rw [State.withPort_port_self, State.dropRef?_port, State.withPort_port_self]
  exact ⟨rfl, rfl, rfl, rfl⟩

theorem State.warmPort_port_ne (s : State) {p q : Port} (h : q ≠ p) : (s.warmPort p).port q = s.port q := by
  obtain ⟨drain, counters, e⟩ := s.abortSending_eq p
  rw [State.warmPort, e]
  simp [h]

theorem State.warmSlot_port (s : State) (sg : Seg) (p : Port) : (s.warmSlot sg).port p = s.port p := by
  unfold State.warmSlot
  dsimp only
  split <;> rfl

theorem State.warmSlot_slot (s : State) (sg : Seg) :
    ((s.warmSlot sg).seg sg).slot = Slot.forRole (s.segSettings sg).role := by
  unfold State.warmSlot
  dsimp only
  rw [State.withSlot_seg_self]
  split <;> rfl

theorem State.warmSlot_seg_ne (s : State) {sg r : Seg} (h : r ≠ sg) : (s.warmSlot sg).seg r = s.seg r := by
  unfold State.warmSlot
  dsimp only
  rw [State.withSlot_seg_ne _ _ _ h]
  split <;> simp [h]

/-- Every port is emptied by a WARM reset. -/
theorem State.warmPorts_emptied (s : State) (p : Port) : ((Port.list.foldl State.warmPort s).port p).Emptied := by
  refine State.foldl_brings (made := fun s p => (s.port p).Emptied) State.warmPort_emptied ?_ Port.list s p p.mem_list
  intro s q p h
  by_cases hp : p = q
  · subst hp
    exact s.warmPort_emptied p
  · rwa [s.warmPort_port_ne hp]

theorem State.warmSlots_port (s : State) (p : Port) (l : List Seg) : (l.foldl State.warmSlot s).port p = s.port p := by
  induction l generalizing s with
  | nil => rfl
  | cons sg l ih => exact (ih _).trans (s.warmSlot_port sg p)

/-- Every slot is as its role says after a WARM reset. -/
theorem State.warmSlots_slot (s : State) (sg : Seg) :
    ((Seg.list.foldl State.warmSlot s).seg sg).slot =
      Slot.forRole ((Seg.list.foldl State.warmSlot s).segSettings sg).role := by
  refine State.foldl_brings (made := fun s sg => (s.seg sg).slot = Slot.forRole (s.segSettings sg).role) (fun s g => ?_) ?_
    Seg.list s sg sg.mem_list
  · rw [State.warmSlot_slot, State.segSettings, State.segSettings, State.warmSlot_port]
  · intro s q g h
    by_cases hg : g = q
    · subst hg
      rw [State.warmSlot_slot, State.segSettings, State.segSettings, State.warmSlot_port]
    · rwa [s.warmSlot_seg_ne hg, State.segSettings, State.warmSlot_port]

theorem State.warmReset_sound (s : State) (h : s.heldInReset = false) : s.warmReset.Sound [] := by
  have evolves := s.warmReset_evolves
  refine State.Sound.of_stopped (m := (Seg.list.foldl State.warmSlot (Port.list.foldl State.warmPort s)).pool) rfl
    (fun p => ?_) rfl fun held => ?_
  · have emptied := (Port.list.foldl State.warmPort s).warmSlots_port p Seg.list ▸ s.warmPorts_emptied p
    refine ⟨⟨.inl ⟨emptied.tx, emptied.rx⟩, emptied.queue, emptied.lane, ?_⟩, emptied.tx⟩
    cases p with
    | trunk => simp [State.line, State.slotOf, PortState.line]
    | seg sg =>
      rintro _ ⟨⟩
      exact State.warmSlots_slot _ sg
  · have same : s.warmReset.heldInReset = s.heldInReset := by
      rw [State.heldInReset, evolves.supply, evolves.pinHeld, State.heldInReset]
    exact absurd (h.symm.trans (same.symm.trans held)) (by simp)

theorem State.restart_sound (s : State) (h : s.heldInReset = false) (f : RestartForm) : (s.restart f).Sound [] := by
  cases f with
  | cold => exact s.coldReset_sound h
  | warm => exact s.warmReset_sound h

/-! ### The start-up load -/

/-- A port at rest comes up at rest with a record (R20, R117, R185). -/
theorem State.bringUp_ledger {s : State} {p : Port} (h : (s.line p).Rests) (r : PortRecord) :
    ∃ y : Line, (s.bringUp p r).ledger = s.ledger.setLine p y ∧ y.Rests := by
  have rests (slot : Option Slot) (hs : ∀ sl ∈ slot, sl = Slot.forRole r.settings.role) :
      (Line.mk r.enabled r.settings.role (Receiver.fresh (if r.enabled then .idle else .off))
        (if r.enabled then .idle else .off) (s.port p).queue (s.port p).lane slot).Rests := by
    refine ⟨?_, h.queue, h.lane, hs⟩
    cases r.enabled
    · exact .inl ⟨rfl, rfl⟩
    · exact .inr ⟨rfl, rfl, rfl⟩
  cases p with
  | trunk => exact ⟨_, s.withPort_ledger .trunk _, rests none (by simp)⟩
  | seg sg =>
    refine ⟨_, ?_, rests (some (Slot.forRole r.settings.role)) (by simp)⟩
    rw [State.bringUp, State.slotForRole, State.withSlot, State.withSeg_ledger, State.withPort_ledger, Ledger.setLine_setLine,
      State.withPort_port_self]
    rfl

theorem State.bringUps_ledger {s : State} (h : ∀ p, (s.line p).Rests) (r : Port → PortRecord) (l : List Port) :
    ∃ f : Port → Line, (l.foldl (fun s p => s.bringUp p (r p)) s).ledger = { s.ledger with line := f } ∧ ∀ p, (f p).Rests := by
  induction l generalizing s with
  | nil => exact ⟨s.line, rfl, h⟩
  | cons q l ih =>
    obtain ⟨y, ledger, rests⟩ := State.bringUp_ledger (h q) (r q)
    have lines : (s.bringUp q (r q)).line = Function.update s.line q y := congrArg Ledger.line ledger
    obtain ⟨f, hf, hrests⟩ := ih (s := s.bringUp q (r q)) fun p => by
      rw [lines]
      by_cases hp : p = q
      · subst hp
        simpa using rests
      · simpa [hp] using h p
    exact ⟨f, by rw [List.foldl_cons, hf, ledger]; rfl, hrests⟩

/-- A start-up load's completion brings the ports up with no holder (R185). -/
theorem State.Sound.applyStartup {s : State} (h : s.Sound []) {source : Option BankId} (hs : s.store.state = .startup source)
    (pr : Profile) : (s.applyStartup pr).Sound [] := by
  have asleep : ¬ s.ledger.Awake := fun a => a.startup source hs
  obtain ⟨off, input⟩ := h.quiet.resolve_left asleep
  have rests (p : Port) : (s.line p).Rests := (h.line p).rests (off p)
  have unheld : s.heldInReset = false := by
    by_contra held
    have idle : s.store.state = .idle := h.held ((Bool.not_eq_false _).mp held)
    rw [hs] at idle
    nomatch idle
  obtain ⟨u, hu, ledger⟩ : ∃ u : State,
      s.applyStartup pr = (Port.list.foldl (fun s p => s.bringUp p (pr.ports.get p)) u).withStore
        { (Port.list.foldl (fun s p => s.bringUp p (pr.ports.get p)) u).store with state := .idle } ∧ u.ledger = s.ledger :=
    ⟨_, rfl, (State.formAlert_ledger _).trans ((State.raiseCause_ledger _ _).trans rfl)⟩
  obtain ⟨f, hf, hrests⟩ := State.bringUps_ledger (s := u) (fun p => by
      have same : u.line p = s.line p := congrFun (congrArg Ledger.line ledger) p
      rw [same]
      exact rests p)
    (fun p => pr.ports.get p) Port.list
  rw [hu, State.Sound, State.withStore_ledger, hf, ledger]
  have holds : s.ledger.holds = [] := by
    have none (p : Port) : (s.ledger.line p).holds = [] := (rests p).holds
    simp [Ledger.holds, none, input]
  refine Ledger.Sound.of_rests h.pool (fun b hb => ?_) hrests input (.inl ⟨unheld, nofun⟩) fun held => ?_
  · rw [h.counts b hb, holds]
    rfl
  · exact absurd (unheld.symm.trans held) (by simp)

end

end Sys2Proof.Machine
end

section
/-! SUPPORT. The guard, the send end and the slot timers keep the laws of the holders (R12, R82, R91, R93, R94, R96, R105). -/

namespace Sys2Proof.Machine

/-! ### Operations of the agent and the alert unit that the ledger does not see -/

section
variable (s : State)

@[simp] theorem State.settleAddress_ledger (id : Nat) : (s.settleAddress id).ledger = s.ledger := by
  unfold State.settleAddress
  split
  · rfl
  · split <;> rfl

@[simp] theorem State.finishAlert_ledger : s.finishAlert.ledger = s.ledger := by
  unfold State.finishAlert
  split
  · rfl
  · exact State.formAlert_ledger _
  · rfl

@[simp] theorem State.guardYields_ledger (sg : Seg) (t : Nat) : (s.guardYields sg t).ledger = s.ledger :=
  s.withGuard_ledger _ _

theorem State.heldInReset_evolves {s t : State} (h : s.Evolves t) : t.heldInReset = s.heldInReset := by
  rw [State.heldInReset, h.supply, h.pinHeld, State.heldInReset]

end

section
variable {s : State} {loose loose' : List Nat} {p : Port} {sg : Seg}

/-! ### Turnaround guard -/

/-- A MUTED receiver becomes IDLE where the port no longer sends; it held no buffer (R12). -/
theorem State.Sound.guardRunsOut (h : s.Sound loose) (still : (s.port (.seg sg)).tx.state.isSending = false) :
    (s.guardRunsOut sg).Sound loose := by
  refine State.Sound.followUp ?_
  by_cases muted : (s.port (.seg sg)).rx.state = .muted
  · have on : (s.port (.seg sg)).tx.state ≠ .off := fun off => by
      have rx : (s.port (.seg sg)).rx = Receiver.fresh .off := ((h.line (.seg sg)).off off).1
      rw [rx] at muted
      nomatch muted
    rw [if_pos muted]
    refine h.withPort (h.portOk on on rfl rfl ?_ ?_) (.inr (h.awake on)) fun b => ?_
    · rintro g _ sending
      exact absurd (still.symm.trans sending) (by simp)
    · rintro g ⟨⟩
      exact (h.seats sg).agrees
    · simp only [PortState.count_holds, muted]
      rfl
  · rw [if_neg muted]
    exact h.congr (s.withPort_ledger_same fun _ => rfl)

theorem State.Sound.guardExpires (h : s.Sound loose) (sg : Seg) (edgeInside : Bool) :
    (s.guardExpires sg edgeInside).Sound loose := by
  unfold State.guardExpires
  have runsOut (t : Nat) (still : (s.port (.seg sg)).tx.state.isSending = false) :
      (if edgeInside && (s.port (.seg sg)).rx.state.watches then s.guardYields sg t else s.guardRunsOut sg).Sound loose := by
    split
    · exact h.congr (s.guardYields_ledger sg t)
    · exact h.guardRunsOut still
  split
  · exact h
  · exact h
  all_goals
    rename_i t _ tx
    exact runsOut t (by rw [tx]; rfl)

/-! ### Send end -/

/-- A transmitter that is IDLE agrees with a slot that has no attempt out. -/
theorem Slot.agreesWith_of_noAttempt {sl : Slot} {tx : TxState} (h : sl.agreesWith tx = true)
    (none : ∀ r, sl ≠ .sendingExchange r) (tx' : TxState) : sl.agreesWith tx' = true := by
  cases sl with
  | sendingExchange r => exact absurd rfl (none r)
  | lapsed r due => exact Slot.agreesWith_lapsed.mpr (Slot.agreesWith_lapsed.mp h)
  | _ => rfl

/-- What is sent while a slot has an attempt out: the first attempt with the queue's reference, or a retry (R81). -/
theorem Slot.agreesWith_sending {r : ExchangeRecord} {cur : Current} {since : Nat}
    (h : (Slot.sendingExchange r).agreesWith (.sending cur since) = true) :
    r.buffer = cur.buffer ∧
      ((∃ d x, cur = .descriptor d ∧ d.kind = .exchange x ∧ r.attempt = 1) ∨ ∃ b, cur = .retry b ∧ 1 < r.attempt) := by
  cases cur with
  | descriptor d =>
    cases hk : d.kind <;> simp [Slot.agreesWith, hk] at h
    rename_i x
    exact ⟨h.2, .inl ⟨d, x, rfl, hk, h.1⟩⟩
  | retry b =>
    simp only [Slot.agreesWith, Bool.and_eq_true, decide_eq_true_eq] at h
    exact ⟨h.2, .inr ⟨b, rfl, h.1⟩⟩
  | reply => simp [Slot.agreesWith] at h
  | alert => simp [Slot.agreesWith] at h

/-- A port after its frame and before anything else follows, TXFRAMES counted (R13). -/
def PortState.sentOut (x : PortState) (p : Port) (t : Nat) : PortState :=
  { x.afterSend p t with counters := (x.afterSend p t).counters.bump .txframes }

/-- A port after its frame differs in its transmitter, its guard, its counters and a MUTED receiver. -/
theorem PortState.sentOut_parts (x : PortState) (p : Port) (t : Nat) :
    (x.sentOut p t).tx.state = .idle ∧ (x.sentOut p t).enabled = x.enabled ∧ (x.sentOut p t).settings = x.settings ∧
      (x.sentOut p t).queue = x.queue ∧
        ((x.sentOut p t).rx = x.rx ∨ p ≠ .trunk ∧ (x.sentOut p t).rx = Receiver.fresh .idle) := by
  cases p with
  | trunk => exact ⟨rfl, rfl, rfl, rfl, .inl rfl⟩
  | seg sg =>
    unfold PortState.sentOut PortState.afterSend
    dsimp only
    split
    · exact ⟨rfl, rfl, rfl, rfl, .inr ⟨by simp, rfl⟩⟩
    · exact ⟨rfl, rfl, rfl, rfl, .inl rfl⟩

/-- A send end sets the reference of the frame free. -/
theorem State.Sound.count_sentOut (h : s.Sound loose) {cur : Current} {since : Nat}
    (htx : (s.port p).tx.state = .sending cur since) (t b : Nat) :
    ((s.port p).sentOut p t).holds.count b + cur.buffer.toList.count b = (s.port p).holds.count b := by
  obtain ⟨tx, _, _, queue, rx⟩ := (s.port p).sentOut_parts p t
  have buffer : ((s.port p).sentOut p t).rx.state.buffer = (s.port p).rx.state.buffer := by
    rcases rx with same | ⟨hp, fresh⟩
    · rw [same]
    · rcases p with _ | sg
      · exact absurd rfl hp
      · have muted : (s.port (.seg sg)).rx.state = .muted :=
          (h.seats sg).muted (by rw [State.line, PortState.line, htx]; rfl)
        rw [fresh, muted]
        rfl
  simp only [PortState.count_holds, tx, buffer, queue, htx, TxState.reference, Option.toList_none, List.count_nil]
  omega

/-- The port after its frame keeps its laws beside a slot that agrees with an IDLE transmitter. -/
theorem State.Sound.sentOut_ok (h : s.Sound loose) {cur : Current} {since : Nat}
    (htx : (s.port (.seg sg)).tx.state = .sending cur since) (t : Nat) {sl : Slot} (used : sl ≠ .outOfUse)
    (was : (s.seg sg).slot ≠ .outOfUse) (agrees : sl.agreesWith .idle = true) (tries : sl.Tries) :
    (((s.port (.seg sg)).sentOut (.seg sg) t).line (some sl)).Ok := by
  obtain ⟨tx, enabled, settings, _, _⟩ := (s.port (.seg sg)).sentOut_parts (.seg sg) t
  have on : (s.port (.seg sg)).tx.state ≠ .off := by simp [htx]
  have idle : (((s.port (.seg sg)).sentOut (.seg sg) t).line (some sl)).tx = .idle := tx
  refine ⟨fun disabled => ?_, fun off => absurd (idle.symm.trans off) (by simp), ?_⟩
  · exact absurd ((enabled.trans (h.enabled on)).symm.trans disabled) (by simp)
  · rintro _ ⟨⟩
    refine ⟨iff_of_false used fun role => was ((h.seats sg).unused.mpr ?_), fun off => absurd (idle.symm.trans off) (by simp),
      fun sending => ?_, ?_, tries⟩
    · rw [PortState.line, settings] at role
      exact role
    · rw [idle] at sending
      nomatch sending
    · rw [idle]
      exact agrees

/-- The send end of an attempt: the slot keeps or takes over the request's reference and awaits the answer (R82, R94). -/
theorem State.Sound.attemptSent (h : s.Sound loose) {cur : Current} {since : Nat} {r : ExchangeRecord}
    (htx : (s.port (.seg sg)).tx.state = .sending cur since) (hslot : (s.seg sg).slot = .sendingExchange r) (t : Nat) :
    ((s.withPort (.seg sg) ((s.port (.seg sg)).sentOut (.seg sg) t)).finishCurrent (.seg sg) cur).Sound loose := by
  obtain ⟨_, _, _, agrees, tries⟩ := h.seats sg
  rw [hslot] at agrees tries
  obtain ⟨first, last, more⟩ := tries.attempt r rfl
  have tx : (s.line (.seg sg)).tx = .sending cur since := htx
  rw [tx] at agrees
  obtain ⟨buffer, kinds⟩ := Slot.agreesWith_sending agrees
  have awake : s.ledger.Awake := h.awake (p := .seg sg) (by simp [htx])
  have ok (r' : ExchangeRecord) (due : Nat) (attempt : r'.attemptOk) :=
    h.sentOut_ok (sl := .awaiting r' due) htx t (by simp) (by simp [hslot]) rfl (.of_record rfl attempt (by simp))
  have on : (s.withPort (.seg sg) ((s.port (.seg sg)).sentOut (.seg sg) t)).attemptOn (.seg sg) = some (sg, r) := by
    simp [State.attemptOn, hslot]
  rcases kinds with ⟨d, x, rfl, hk, attempt⟩ | ⟨b, rfl, attempt⟩
  · rw [State.finishCurrent, State.finishDescriptor, hk]
    dsimp only
    rw [on]
    refine h.withPortSlot (ok _ _ ⟨first, last, more⟩) (.inr awake) fun c => ?_
    have sent := h.count_sentOut htx t c
    simp only [hslot, Slot.requestReference, attempt, buffer, Option.toList_none, List.count_nil, le_refl, if_true]
    omega
  · rw [State.finishCurrent, State.finishRetry, on]
    have kept : ((s.withPort (.seg sg) ((s.port (.seg sg)).sentOut (.seg sg) t)).slotAwaits sg r).Sound (b :: loose) := by
      refine h.withPortSlot (ok _ _ ⟨first, last, more⟩) (.inr awake) fun c => ?_
      have sent := h.count_sentOut htx t c
      simp only [Current.buffer, Option.toList_some, List.count_cons, List.count_nil] at sent
      simp only [hslot, Slot.requestReference, Nat.not_le.mpr attempt, if_false, List.count_cons]
      omega
    exact kept.dropRef

/-- A segment whose no-answer frame has ended settles (R93). -/
theorem State.Sound.slotSettles (h : s.Sound loose) (p : Port) : (s.slotSettles p).Sound loose := by
  unfold State.slotSettles
  split
  · exact h
  · split
    · rename_i hslot
      refine h.moveSlot (by simp [hslot]) (by simp) (.inl (h.on_of_slot (by simp [hslot]) (by simp [hslot]))) rfl
        (.of_none rfl) fun b => by simp [hslot, Slot.requestReference]
    · exact h

/-- A free lane takes a reply that waits for it, on a port that is up (R125, R126). -/
theorem State.Sound.laneFree (h : s.Sound loose) (on : (s.port p).tx.state ≠ .off) : (s.laneFree p).Sound loose := by
  have place (a : Agent) (ha : a.input = s.agent.input) (r : Option Reply) : ((s.withAgent a).withLane p r).Sound loose := by
    refine State.Sound.withLane (s := s.withAgent a) (h.congr ?_) on r
    rw [State.withAgent_ledger, ha]
    rfl
  unfold State.laneFree
  split
  · exact place _ rfl _
  · split
    · exact h
    · split
      · exact place _ rfl _
      · exact h

/-- A lane reply's send end: a restart is taken, or the lane takes what waits for it (R76, R147). -/
theorem State.Sound.finishReply (h : s.Sound []) (on : (s.port p).tx.state ≠ .off) : (s.finishReply p).Sound [] := by
  have emptied := h.withLane on none
  unfold State.finishReply
  split
  · exact h
  · rename_i r _
    split
    · exact State.restart_sound (s.withLane p none) (h.awake on).held _
    · refine State.Sound.laneFree (emptied.congr (State.settleAddress_ledger _ _)) ?_
      have same : ((s.withLane p none).settleAddress r.id).line p = (s.withLane p none).line p :=
        congrFun (congrArg Ledger.line (State.settleAddress_ledger _ _)) p
      have tx : (((s.withLane p none).settleAddress r.id).port p).tx.state = ((s.withLane p none).port p).tx.state :=
        congrArg Line.tx same
      rw [tx, State.withLane_port_self]
      exact on

/-- What finishes where no slot has an attempt out (R82). -/
theorem State.Sound.finishCurrent {cur : Current} (h : s.Sound cur.buffer.toList) (none : s.attemptOn p = none)
    (on : (s.port p).tx.state ≠ .off) : (s.finishCurrent p cur).Sound [] := by
  cases cur with
  | descriptor d =>
    have dropped : (s.dropRef d.buffer).Sound [] := State.Sound.dropRef h
    rw [State.finishCurrent, State.finishDescriptor]
    split
    · rw [none]
      exact dropped
    all_goals exact dropped.slotSettles p
  | retry b =>
    rw [State.finishCurrent, State.finishRetry, none]
    exact State.Sound.dropRef h
  | reply => exact State.Sound.finishReply h on
  | alert => exact State.Sound.congr h s.finishAlert_ledger

theorem State.attemptOn_none (h : s.attemptOn (.seg sg) = none) (r : ExchangeRecord) : (s.seg sg).slot ≠ .sendingExchange r := by
  intro e
  simp [State.attemptOn, e] at h

/-- Either a port sends no attempt, or it is a segment whose slot has one out. -/
theorem State.attemptOn_cases (s : State) (p : Port) :
    s.attemptOn p = none ∨ ∃ sg r, p = .seg sg ∧ (s.seg sg).slot = .sendingExchange r := by
  rcases p with _ | sg
  · exact .inl rfl
  · unfold State.attemptOn
    dsimp only
    split
    · rename_i r hslot
      exact .inr ⟨sg, r, rfl, hslot⟩
    · exact .inl rfl

theorem State.Sound.sendEnds (h : s.Sound []) (p : Port) : (s.sendEnds p).Sound [] := by
  unfold State.sendEnds
  split
  · exact h
  · exact h
  · exact h
  · rename_i cur since htx
    refine State.Sound.followUp ?_
    have counted : (s.withPort p ((s.port p).afterSend p s.now)).count p .txframes =
        s.withPort p ((s.port p).sentOut p s.now) := by
      rw [State.count, State.withPort_port_self, State.withPort_withPort]
      rfl
    rw [counted]
    obtain ⟨idle, enabled, settings, _, _⟩ := (s.port p).sentOut_parts p s.now
    have on : (s.port p).tx.state ≠ .off := by simp [htx]
    rcases s.attemptOn_cases p with attempt | ⟨sg, r, rfl, hslot⟩
    · have on' : ((s.port p).sentOut p s.now).tx.state ≠ .off := by simp [idle]
      have sent : (s.withPort p ((s.port p).sentOut p s.now)).Sound (cur.buffer.toList) := by
        refine h.withPort (h.portOk on on' enabled (by rw [settings]) (fun sg _ sending => ?_) ?_) (.inr (h.awake on)) fun b => ?_
        · rw [idle] at sending
          nomatch sending
        · rintro sg rfl
          exact Slot.agreesWith_of_noAttempt (h.seats sg).agrees (State.attemptOn_none attempt) _
        · rw [h.count_sentOut htx]
          rfl
      refine sent.finishCurrent ?_ (by rwa [State.withPort_port_self])
      rcases p with _ | sg
      · rfl
      · exact attempt
    · exact h.attemptSent htx hslot s.now

/-! ### Timers -/

theorem State.Sound.responseExpires (h : s.Sound loose) (sg : Seg) : (s.responseExpires sg).Sound loose := by
  unfold State.responseExpires
  split
  · rename_i hslot
    exact (h.attemptTimedOut hslot).finish
  · exact h

theorem State.Sound.lapseExpires (h : s.Sound loose) (sg : Seg) : (s.lapseExpires sg).Sound loose := by
  unfold State.lapseExpires
  split
  · rename_i r due hslot
    obtain ⟨_, _, _, agrees, tries⟩ := h.seats sg
    rw [hslot] at agrees tries
    have on := h.on_of_slot (sg := sg) (by simp [hslot]) (by simp [hslot])
    refine State.Sound.followUp ?_
    split
    · rename_i pending
      refine h.moveSlot (by simp [hslot]) (by simp) (.inl on) rfl ⟨?_, ?_⟩ fun b => by rw [hslot]; rfl
      · rintro _ ⟨⟩
        exact tries.attempt r rfl
      · rintro _ ⟨⟩
        exact pending
    · rename_i pending
      have buffer : r.buffer = none := (Slot.agreesWith_lapsed.mp agrees).resolve_left pending
      exact h.moveSlot (by simp [hslot]) (by simp) (.inl on) rfl (.of_none rfl) fun b => by
        simp [hslot, Slot.requestReference, buffer]
  · exact h

theorem State.Sound.settleExpires (h : s.Sound loose) (sg : Seg) : (s.settleExpires sg).Sound loose := by
  unfold State.settleExpires
  split
  · rename_i hslot
    refine State.Sound.followUp (h.moveSlot (by simp [hslot]) (by simp) (.inr rfl) rfl (.of_none rfl) fun b => ?_)
    simp [hslot, Slot.requestReference]
  · exact h

theorem State.Sound.repeatExpires (h : s.Sound loose) : s.repeatExpires.Sound loose := by
  unfold State.repeatExpires
  split
  · split
    · exact State.Sound.followUp (h.congr (State.placeCurrentAlert_ledger _))
    · exact h.congr (s.withAlert_ledger _)
  · exact h

end

end Sys2Proof.Machine
end

section
/-! SUPPORT. The agent's commands, the store's completions, the resets and with them every command keep the laws of the holders
(R18, R19, R20, R109, R121, R126, R147, R177, R182, R185, R192, R193). -/

namespace Sys2Proof.Machine

/-! ### Operations that the ledger does not see -/

section
variable (s : State)

@[simp] theorem State.settleLost_ledger (r : Option Reply) : (s.settleLost r).ledger = s.ledger := by
  cases r with
  | none => rfl
  | some r => exact s.settleAddress_ledger r.id

@[simp] theorem State.loseDeferred_ledger (p : Port) : (s.loseDeferred p).ledger = s.ledger := by
  unfold State.loseDeferred
  split
  · rfl
  · split
    · rfl
    · split
      · exact State.settleAddress_ledger _ _
      · rfl

@[simp] theorem State.clearWatermark_ledger : s.clearWatermark.ledger = s.ledger := rfl

@[simp] theorem State.awaitSettings_ledger (a : AgentSettings) : (s.awaitSettings a).ledger = s.ledger := rfl

@[simp] theorem State.setAgentSettings_ledger (a : AgentSettings) : (s.setAgentSettings a).ledger = s.ledger := rfl

@[simp] theorem State.zeroPort_ledger (p : Port) : (s.zeroPort p).ledger = s.ledger := by
  have port : (s.withPort p { s.port p with counters := PortCounters.zero }).ledger = s.ledger :=
    s.withPort_ledger_same fun _ => rfl
  cases p with
  | trunk => exact port
  | seg sg =>
    refine Eq.trans (State.withSeg_ledger_same _ ?_) port
    rfl

@[simp] theorem State.acknowledge_ledger : s.acknowledge.ledger = s.ledger := State.formAlert_ledger _

theorem State.foldl_ledger {α : Type} {f : State → α → State} (hf : ∀ s a, (f s a).ledger = s.ledger) (l : List α) :
    (l.foldl f s).ledger = s.ledger := by
  induction l generalizing s with
  | nil => rfl
  | cons a l ih => exact (ih _).trans (hf s a)

@[simp] theorem State.placeRecords_ledger (r : PerPort PortRecord) : (s.placeRecords r).ledger = s.ledger :=
  s.foldl_ledger (fun s _ => s.withPendingSettings_ledger _ _) _

end

/-- The slots are part of the ledger. -/
theorem State.slot_of_ledger {s t : State} (e : t.ledger = s.ledger) (sg : Seg) : (t.seg sg).slot = (s.seg sg).slot :=
  Option.some.inj (congrArg (fun v : Ledger => (v.line (.seg sg)).slot) e)

theorem State.withSlot_ledger (s : State) (sg : Seg) (sl : Slot) :
    (s.withSlot sg sl).ledger = s.ledger.setLine (.seg sg) { s.ledger.line (.seg sg) with slot := some sl } :=
  s.withSeg_ledger sg _

section
variable {s : State} {loose : List Nat} {p : Port} {sg : Seg}

/-! ### Replies -/

theorem PortState.on_of_not_refusesReply {x : PortState} (h : ¬ x.refusesReply = true) : x.tx.state ≠ .off := by
  intro off
  simp [PortState.refusesReply, PortState.isOff, off] at h

/-- A reply that is settled may be a restart's (R127, R147). -/
theorem State.Sound.settleReply (h : s.Sound []) (held : s.heldInReset = false) (r : Reply) : (s.settleReply r).Sound [] := by
  unfold State.settleReply
  split
  · exact h.congr (s.settleAddress_ledger _)
  · exact State.restart_sound _ ((State.heldInReset_evolves (s.settleAddress_evolves _)).trans held) _

theorem State.Sound.offerReply (h : s.Sound []) (held : s.heldInReset = false) (p : Port) (r : Reply) :
    (s.offerReply p r).Sound [] := by
  unfold State.offerReply
  split
  · exact h.settleReply held r
  · rename_i takes
    split
    · exact h.withLane (PortState.on_of_not_refusesReply takes) _
    · exact h.congr rfl

theorem State.Sound.answer (h : s.Sound []) (held : s.heldInReset = false) (rq : Request) (o : CommandOutcome) (body : List Byte)
    (restart : Option RestartForm) : (s.answer rq o body restart).Sound [] :=
  State.Sound.offerReply (s := s.numberReply) (h.congr rfl) held _ _

theorem State.Sound.answerPlain (h : s.Sound []) (held : s.heldInReset = false) (rq : Request) (o : CommandOutcome) :
    (s.answerPlain rq o).Sound [] := h.answer held rq o [] none

theorem State.Sound.offerDeferred (h : s.Sound loose) (o : CommandOutcome) : (s.offerDeferred o).Sound loose := by
  unfold State.offerDeferred
  split
  · exact h
  · rename_i d _
    dsimp only
    split
    · exact h.congr (State.settleAddress_ledger _ _)
    · rename_i takes
      split
      · exact State.Sound.withLane (s := s.numberReply.withAgent { s.numberReply.agent with deferred := none }) (h.congr rfl)
          (PortState.on_of_not_refusesReply takes) _
      · exact h.congr rfl

/-! ### ENABLE PORT and DISABLE PORT -/

theorem State.Sound.enablePort (h : s.Sound []) (awake : s.ledger.Awake) (p : Port) : (s.enablePort p).Sound [] := by
  unfold State.enablePort
  dsimp only
  split
  · exact h
  · rename_i disabled
    have off : (s.port p).tx.state = .off := (h.line p).disabled ((Bool.not_eq_true _).mp disabled)
    have rx : (s.port p).rx = Receiver.fresh .off := ((h.line p).off off).1
    refine h.place (p := p) awake rfl rfl ?_ fun b => ?_
    · rintro sg rfl
      rcases (h.seats sg).stopped off with free | out
      · rw [free]
        rfl
      · rw [out]
        rfl
    · simp only [PortState.count_holds, off, rx]
      rfl

section
variable (s : State)

theorem State.dropRef?_withPort (b : Option Nat) (p : Port) (x : PortState) :
    (s.dropRef? b).withPort p x = (s.withPort p x).dropRef? b := by
  cases b <;> rfl

theorem State.dropRef?_withSlot (b : Option Nat) (sg : Seg) (sl : Slot) :
    (s.dropRef? b).withSlot sg sl = (s.withSlot sg sl).dropRef? b := by
  cases b <;> rfl

theorem State.dropRefs_withPort (bs : List Nat) (p : Port) (x : PortState) :
    (s.dropRefs bs).withPort p x = (s.withPort p x).dropRefs bs := by
  induction bs generalizing s with
  | nil => rfl
  | cons b bs ih => exact ih _

theorem State.dropRefs_withSlot (bs : List Nat) (sg : Seg) (sl : Slot) :
    (s.dropRefs bs).withSlot sg sl = (s.withSlot sg sl).dropRefs bs := by
  induction bs generalizing s with
  | nil => rfl
  | cons b bs ih => exact ih _

@[simp] theorem State.dropRefs_port (bs : List Nat) (p : Port) : (s.dropRefs bs).port p = s.port p := by
  induction bs generalizing s with
  | nil => rfl
  | cons b bs ih => exact ih _

@[simp] theorem State.dropRefs_seg (bs : List Nat) (sg : Seg) : (s.dropRefs bs).seg sg = s.seg sg := by
  induction bs generalizing s with
  | nil => rfl
  | cons b bs ih => exact ih _

end

/-- The buffers that a port's receiver, transmitter and queue hold, in the order in which a stop drops them (R110). -/
theorem State.stopPort_eq (s : State) (p : Port) :
    ∃ x : PortState, ((s.receiverOff p).abortSending p).flushQueue p =
        (((s.withPort p x).dropRef? (s.port p).rx.state.buffer).dropRef? (s.port p).tx.state.reference).dropRefs
          (s.port p).queue.buffers ∧
      x.settings = (s.port p).settings ∧ x.rx = Receiver.fresh .off ∧ x.tx.state = .off ∧
        x.queue = TxQueue.empty ∧ x.lane = none := by
  obtain ⟨drain, counters, e⟩ := (s.receiverOff p).abortSending_eq p
  rw [e, State.flushQueue, State.withQueue, State.withLane, State.withPort_port_self, State.dropRefs_port,
    State.withPort_withPort, State.dropRefs_withPort, State.receiverOff]
  simp only [State.dropRef?_port, State.withPort_port_self, State.dropRef?_withPort, State.withPort_withPort]
  exact ⟨_, rfl, rfl, rfl, rfl, rfl, rfl⟩

/-- A slot after DISABLE PORT (R109). -/
def Slot.stopped (sl : Slot) : Slot :=
  match sl with
  | .outOfUse => .outOfUse
  | _ => .free

theorem Slot.stopped_cases (sl : Slot) : sl = .outOfUse ∧ sl.stopped = .outOfUse ∨ sl ≠ .outOfUse ∧ sl.stopped = .free := by
  cases sl <;> simp [Slot.stopped]

/-- A slot that is closed without an open exchange has no reference of its own (R109). -/
theorem Slot.requestReference_of_closed {sl : Slot} {tx : TxState} (agrees : sl.agreesWith tx = true)
    (closed : sl.openRecord = none) : sl.requestReference = none := by
  cases sl with
  | lapsed r due =>
    have pending : ¬ r.retryPending = true := fun e => by simp [Slot.openRecord, e] at closed
    exact (Slot.agreesWith_lapsed.mp agrees).resolve_left pending
  | outOfUse | free | sendingNoAnswer | settling => rfl
  | _ => nomatch closed

/-- DISABLE PORT closes a slot in the order of R109; its request's reference is dropped before a notice is built. -/
theorem State.Sound.cancelExchange
    (h : (s.withSlot sg (s.seg sg).slot.stopped).Sound ((s.seg sg).slot.requestReference.toList ++ loose))
    (closed : (s.seg sg).slot.openRecord = none → (s.seg sg).slot.requestReference = none) :
    (s.cancelExchange sg).Sound loose := by
  unfold State.cancelExchange
  split
  · rename_i out
    rw [out] at h
    have same : (s.withSlot sg Slot.outOfUse).ledger = s.ledger := s.withSeg_ledger_same out.symm
    exact h.congr same.symm
  · rename_i used
    have stopped : (s.seg sg).slot.stopped = .free := by
      rcases (s.seg sg).slot.stopped_cases with ⟨out, _⟩ | ⟨_, free⟩
      · exact absurd out used
      · exact free
    rw [stopped] at h
    split
    · rename_i none
      rw [closed none] at h
      exact h
    · have order (t : State) (b : Option Nat) (flag : Bool) (n : NoticeRequest) :
          ((t.dropRef? b).noticeIf flag n).withSlot sg .free = ((t.withSlot sg .free).dropRef? b).noticeIf flag n := by
        rw [← State.dropRef?_withSlot, State.noticeIf_withSlot]
      have counted : ((s.countExchange sg .cancelled).withSlot sg .free).ledger = (s.withSlot sg .free).ledger := by
        rw [State.withSlot_ledger, State.countExchange_ledger, State.withSlot_ledger]
      rw [order]
      exact ((h.congr counted).dropRef?).noticeIf _ _

/-- A port that is off and empty keeps its laws beside a closed slot (R19, R87, R109). -/
theorem State.Sound.stopped_ok (h : s.Sound loose) {x : PortState} (role : x.settings = (s.port (.seg sg)).settings)
    (tx : x.tx.state = .off) (rest : x.rx = Receiver.fresh .off ∧ x.queue = TxQueue.empty ∧ x.lane = none) :
    (x.line (some (s.seg sg).slot.stopped)).Ok := by
  obtain ⟨unused, _, _, _, _⟩ := h.seats sg
  refine ⟨fun _ => tx, fun _ => rest, ?_⟩
  rintro _ ⟨⟩
  have uplink : (s.seg sg).slot = .outOfUse ↔ x.settings.role = .uplink := by
    rw [role]
    exact unused
  have silent : (x.line (some (s.seg sg).slot.stopped)).tx.isSending = false := by
    rw [PortState.line, tx]
    rfl
  have quiet : ¬ (x.line (some (s.seg sg).slot.stopped)).tx.isSending = true := by simp [silent]
  rcases (s.seg sg).slot.stopped_cases with ⟨out, e⟩ | ⟨used, e⟩
  · rw [e]
    exact ⟨iff_of_true rfl (uplink.mp out), fun _ => .inr rfl, fun sending => absurd sending quiet, rfl, .of_none rfl⟩
  · rw [e]
    exact ⟨iff_of_false (by simp) (fun role => used (uplink.mpr role)), fun _ => .inl rfl,
      fun sending => absurd sending quiet, rfl, .of_none rfl⟩

theorem Slot.requestReference_stopped (sl : Slot) : sl.stopped.requestReference = none := by
  cases sl <;> rfl

theorem State.Sound.disableSegment (h : s.Sound []) (sg : Seg) : (s.disableSegment sg).Sound [] := by
  unfold State.disableSegment
  split
  · obtain ⟨x, stop, settings, rx, tx, queue, lane⟩ := s.stopPort_eq (.seg sg)
    have ledger := ((((((s.receiverOff (.seg sg)).abortSending (.seg sg)).flushQueue (.seg sg)).settleLost
      (s.port (.seg sg)).lane).loseDeferred_ledger (.seg sg)).trans (State.settleLost_ledger _ _)).trans
        (congrArg State.ledger stop)
    have slot := State.slot_of_ledger ledger sg
    rw [State.dropRefs_seg, State.dropRef?_seg, State.dropRef?_seg, State.withPort_seg] at slot
    refine State.Sound.cancelExchange ?_ fun closed => ?_
    · have off : ((s.withPort (.seg sg) x).withSlot sg (s.seg sg).slot.stopped).Sound
          ((s.port (.seg sg)).rx.state.buffer.toList ++ ((s.port (.seg sg)).tx.state.reference.toList ++
            ((s.port (.seg sg)).queue.buffers ++ ((s.seg sg).slot.requestReference.toList ++ [])))) := by
        refine h.withPortSlot (h.stopped_ok settings tx ⟨rx, queue, lane⟩) (.inl tx) fun b => ?_
        simp only [PortState.count_holds, rx, tx, queue, Slot.requestReference_stopped, List.count_append]
        simp [Receiver.fresh, RxState.buffer, TxQueue.buffers, TxQueue.empty, TxState.reference]
        omega
      rw [slot]
      refine (off.dropRef?.dropRef?.dropRefs).congr ?_
      rw [State.withSlot_ledger, ledger, ← State.withSlot_ledger, State.dropRefs_withSlot, State.dropRef?_withSlot,
        State.dropRef?_withSlot]
    · rw [slot] at closed ⊢
      exact Slot.requestReference_of_closed (h.seats sg).agrees closed
  · exact h

/-! ### The commands -/

/-- The checks before a command keep the laws if the command does (R122). -/
theorem State.Sound.checked {α : Type} (h : s.Sound []) (held : s.heldInReset = false) {rq : Request} {k : Permit}
    {read : List Byte → Option α} {act : α → State} (ha : ∀ x, (act x).Sound []) : (s.checked rq k read act).Sound [] := by
  unfold State.checked
  split
  · split
    · exact h.answerPlain held _ _
    · exact ha _
  · exact h.answerPlain held _ _

/-- The head entry leaves the queue and its buffer's reference is dropped (R121). -/
theorem State.Sound.afterTake {e : InputEntry} {rest : List InputEntry} (h : s.Sound []) (head : s.agent.input = e :: rest) :
    (s.afterTake e).Sound [] ∧ (s.afterTake e).ledger.Awake := by
  have awake : s.ledger.Awake := Ledger.Sound.awake_of_input h (by simp [State.ledger, head])
  have taken : (s.withAgent { s.agent with input := s.agent.input.tail }).Sound [e.buffer] := by
    refine h.withInput awake fun b => ?_
    simp [head, List.count_cons]
  exact ⟨taken.dropRef, awake.held, awake.startup⟩

/-- The taking of a command keeps the laws if the command does (R121). -/
theorem State.Sound.takeCommand (h : s.Sound []) (i : Instr) {f : Request → State → State}
    (hf : ∀ rq t, State.Sound t [] → t.ledger.Awake → (f rq t).Sound []) : (s.takeCommand i f).Sound [] := by
  unfold State.takeCommand
  split
  · split
    · exact h
    · rename_i e rest head
      obtain ⟨taken, awake⟩ := h.afterTake head
      split
      · exact State.Sound.followUp (taken.congr (State.count_ledger _ _ _))
      · exact (hf _ _ taken awake).followUp
  · exact h

end

section
variable {s : State} (rq : Request) (h : s.Sound []) (awake : s.ledger.Awake)
include h awake

/-- A command that only answers, after an operation that the ledger does not see. -/
theorem State.Sound.answered {u : State} (e : u.ledger = s.ledger) (o : CommandOutcome) (body : List Byte)
    (restart : Option RestartForm) : (u.answer rq o body restart).Sound [] := by
  have held : u.ledger.held = false := by rw [e]; exact awake.held
  exact State.Sound.answer (h.congr e) held rq o body restart

theorem doIdentify_sound : (doIdentify rq s).Sound [] := h.checked awake.held fun _ => h.answered rq awake rfl _ _ _
theorem doUnknown_sound : (doUnknown rq s).Sound [] := h.answered rq awake rfl _ _ _
theorem doReadStatus_sound : (doReadStatus rq s).Sound [] := h.checked awake.held fun _ => h.answered rq awake rfl _ _ _
theorem doReadPort_sound : (doReadPort rq s).Sound [] := h.checked awake.held fun _ => h.answered rq awake rfl _ _ _

theorem doSetPort_sound : (doSetPort rq s).Sound [] :=
  h.checked awake.held fun _ => (h.answerPlain awake.held rq .done).congr (State.withPendingSettings_ledger _ _ _)

theorem doEnablePort_sound : (doEnablePort rq s).Sound [] :=
  h.checked awake.held fun p => (h.enablePort awake p).answerPlain
    ((State.heldInReset_evolves (s.enablePort_evolves p)).trans awake.held) rq .done

theorem doDisablePort_sound : (doDisablePort rq s).Sound [] := by
  refine h.checked awake.held fun sg => ?_
  have held : (s.disableSegment sg).heldInReset = false :=
    (State.heldInReset_evolves (s.disableSegment_evolves sg)).trans awake.held
  unfold State.restartIf
  split
  · exact (h.disableSegment sg).answerPlain held rq .done
  · exact State.restart_sound _ ((State.heldInReset_evolves (State.answerPlain_evolves _ _ _)).trans held) _

theorem doReadRule_sound : (doReadRule rq s).Sound [] := by
  refine h.checked awake.held fun i => ?_
  split
  · exact h.answered rq awake rfl _ _ _
  · exact h.answered rq awake rfl _ _ _

theorem doWriteRule_sound : (doWriteRule rq s).Sound [] :=
  h.checked awake.held fun _ => h.answered rq awake (s.withRules_ledger _) _ _ _

theorem doDeleteRule_sound : (doDeleteRule rq s).Sound [] := by
  refine h.checked awake.held fun i => ?_
  split
  · exact h.answered rq awake rfl _ _ _
  · exact h.answered rq awake (s.withRules_ledger _) _ _ _

theorem doReadHits_sound : (doReadHits rq s).Sound [] := h.checked awake.held fun _ => h.answered rq awake rfl _ _ _
theorem doReadCounters_sound : (doReadCounters rq s).Sound [] := h.checked awake.held fun _ => h.answered rq awake rfl _ _ _

theorem doClearPort_sound : (doClearPort rq s).Sound [] :=
  h.checked awake.held fun p => h.answered rq awake ((State.clearWatermark_ledger _).trans (s.zeroPort_ledger p)) _ _ _

theorem doClearAll_sound : (doClearAll rq s).Sound [] :=
  h.checked awake.held fun _ => h.answered rq awake
    ((State.clearWatermark_ledger _).trans (s.foldl_ledger State.zeroPort_ledger Port.list)) _ _ _

theorem doClearHits_sound : (doClearHits rq s).Sound [] :=
  h.checked awake.held fun _ => h.answered rq awake ((State.clearWatermark_ledger _).trans (s.withRules_ledger _)) _ _ _

theorem doReadExchange_sound : (doReadExchange rq s).Sound [] := h.checked awake.held fun _ => h.answered rq awake rfl _ _ _

theorem doTakeSnapshot_sound : (doTakeSnapshot rq s).Sound [] := by
  refine h.checked awake.held fun p => ?_
  split
  · exact h.answered rq awake rfl _ _ _
  · exact h.answered rq awake (s.withSnapshot_ledger _ _) _ _ _

theorem doAckAlert_sound : (doAckAlert rq s).Sound [] := by
  refine h.checked awake.held fun q => ?_
  split
  · exact h.answered rq awake rfl _ _ _
  · split
    · exact h.answered rq awake s.acknowledge_ledger _ _ _
    · exact h.answered rq awake rfl _ _ _

theorem doSetAgent_sound : (doSetAgent rq s).Sound [] :=
  h.checked awake.held fun a => h.answered rq awake (s.setAgentSettings_ledger a) _ _ _

/-- The store enters another state than a start-up load. -/
theorem State.Sound.withStoreAwake {x : Store} (hx : ∀ src, x.state ≠ .startup src) : (s.withStore x).Sound [] :=
  Ledger.Sound.setStore h hx fun held => absurd (awake.held.symm.trans held) (by simp)

theorem doCommit_sound : (doCommit rq s).Sound [] :=
  h.checked awake.held fun _ =>
    State.Sound.withStoreAwake (s := s.formDeferred rq) (h.congr rfl) ⟨awake.held, awake.startup⟩ nofun

theorem doLoad_sound : (doLoad rq s).Sound [] := by
  refine h.checked awake.held fun _ => ?_
  split
  · exact h.answered rq awake rfl _ _ _
  · exact State.Sound.withStoreAwake (s := s.formDeferred rq) (h.congr rfl) ⟨awake.held, awake.startup⟩ nofun

theorem doReadStore_sound : (doReadStore rq s).Sound [] := h.checked awake.held fun _ => h.answered rq awake rfl _ _ _
theorem doRestartCold_sound : (doRestartCold rq s).Sound [] := h.checked awake.held fun _ => h.answered rq awake rfl _ _ _
theorem doRestartWarm_sound : (doRestartWarm rq s).Sound [] := h.checked awake.held fun _ => h.answered rq awake rfl _ _ _

end

section
variable {s : State} {loose : List Nat}

/-! ### The store's completions -/

/-- A store operation that ends leaves the store IDLE. -/
theorem State.Sound.storeIdle (h : s.Sound loose) {x : Store} (hx : x.state = .idle) : (s.withStore x).Sound loose :=
  Ledger.Sound.setStore h (by simp [hx]) fun _ => hx

theorem State.Sound.commitCompletes (h : s.Sound loose) (wrong : List (Nat × Byte)) : (s.commitCompletes wrong).Sound loose := by
  unfold State.commitCompletes
  split
  · rename_i j _
    have ended : (s.endCommit j wrong).Sound loose := h.storeIdle rfl
    split
    · exact (ended.offerDeferred _).followUp
    · exact ((ended.offerDeferred _).congr (State.raiseCause_ledger _ _)).finish
  · exact h
  · exact h
  · exact h

theorem State.Sound.loadCompletes (h : s.Sound loose) : s.loadCompletes.Sound loose := by
  unfold State.loadCompletes
  split
  · rename_i source _
    have idle : (s.withStore { s.store with state := .idle }).Sound loose := h.storeIdle rfl
    have offered := (idle.congr (State.awaitSettings_ledger _ (s.store.profileOf (some source)).agent)).offerDeferred .done
    exact (offered.congr ((State.placeRecords_ledger _ _).trans (State.withRules_ledger _ _))).followUp
  · exact h
  · exact h
  · exact h

theorem State.Sound.startupCompletes (h : s.Sound []) : s.startupCompletes.Sound [] := by
  unfold State.startupCompletes
  split
  · rename_i source hs
    exact (h.applyStartup hs _).followUp
  · exact h
  · exact h
  · exact h

/-! ### Resets from outside -/

/-- What holds a part in a reset goes, or one hold of two, and the start-up load may begin (R184, R192, R193). -/
theorem State.Sound.leaveReset (h : s.Sound []) (held : s.heldInReset = true) {t : State}
    (same : t.ledger = { s.ledger with held := t.heldInReset }) : t.leaveReset.Sound [] := by
  have asleep : ¬ s.ledger.Awake := fun a => absurd (a.held.symm.trans held) (by simp)
  have quiet := h.quiet.resolve_left asleep
  unfold State.leaveReset
  split
  · rename_i still
    refine h.congr (same.trans ?_)
    rw [still, ← held]
    rfl
  · rename_i released
    have begun : t.beginStartup.ledger = { s.ledger with held := t.heldInReset, store := t.beginStartup.store.state } := by
      rw [State.beginStartup, State.withStore_ledger, same]
      rfl
    rw [State.Sound, begun]
    exact ⟨h.pool, h.counts, h.line, .inr quiet, fun e => absurd e released⟩

theorem State.Sound.supplyReleases (h : s.Sound []) : s.supplyReleases.Sound [] := by
  unfold State.supplyReleases
  split
  · rename_i e
    exact h.leaveReset (by simp [State.heldInReset, e]) rfl
  · rename_i e
    exact h.leaveReset (by simp [State.heldInReset, e]) rfl
  · exact h
  · exact h

theorem State.Sound.pinRises (h : s.Sound []) : s.pinRises.Sound [] := by
  unfold State.pinRises
  split
  · rename_i e
    exact h.leaveReset (by simp [State.heldInReset, e]) rfl
  · exact h

theorem State.Sound.supplyFalls (h : s.Sound []) : s.supplyFalls.Sound [] := by
  unfold State.supplyFalls
  split
  · exact s.wiped_sound .supply .heldSupply s.pinHeld
  · exact s.wiped_sound .supply .heldSupply s.pinHeld
  · exact h
  · exact h

theorem State.Sound.pinFalls (h : s.Sound []) : s.pinFalls.Sound [] := by
  unfold State.pinFalls
  split
  · exact s.wiped_sound .pin s.supply true
  · exact s.wiped_sound .pin s.supply true
  · exact s.wiped_sound .pin s.supply true
  · exact h

/-! ### Every command and every step -/

theorem State.Sound.whenClocked (h : s.Sound []) {f : State → State} (hf : (f s).Sound []) : (s.whenClocked f).Sound [] := by
  unfold State.whenClocked
  split
  · exact hf
  · exact h

end

/-- Every command keeps the laws of the holders. -/
theorem exec_sound {c : Instr} {s t : State} (h : s.Sound []) (hc : exec c s = .next t) : t.Sound [] := by
  cases c
  case commitCompletion w =>
    simp only [exec, execCommitCompletion] at hc
    split at hc
    · injection hc with hc; subst hc; exact h.whenClocked (h.commitCompletes w)
    · nomatch hc
  all_goals injection hc with hc; subst hc
  case characterArrival p => exact h.whenClocked (h.arrive p)
  case characterReceived p d a b => exact h.whenClocked (h.receive p d a b)
  case heldCharacterReleased p => exact h.whenClocked (h.releaseHeld p)
  case breakDeclared p => exact h.whenClocked (h.declareBreak p)
  case gapTimerExpiry p => exact h.whenClocked (h.gapExpires p)
  case turnaroundGuardExpiry g x => exact h.whenClocked (h.guardExpires g x)
  case sendEnd p => exact h.whenClocked (h.sendEnds p)
  case responseTimerExpiry g => exact h.whenClocked (h.responseExpires g)
  case lapseTimerExpiry g => exact h.whenClocked (h.lapseExpires g)
  case settleTimerExpiry g => exact h.whenClocked (h.settleExpires g)
  case repeatTimerExpiry => exact h.whenClocked h.repeatExpires
  case loadCompletion => exact h.whenClocked h.loadCompletes
  case startupLoadCompletion => exact h.whenClocked h.startupCompletes
  case lineReturnsHighAfterBreak p => exact h.whenClocked (h.lineHigh p)
  case powerReset => exact s.wiped_sound .power .heldPower false
  case supplyReset => exact h.supplyFalls
  case supplyRelease => exact h.supplyReleases
  case pinReset => exact h.pinFalls
  case pinResetEnd => exact h.pinRises
  case vddFallsBelow1V2 => exact s.supplyLost_sound
  case clkinStops => exact h.congr rfl
  case clkinReturns => exact h.congr rfl
  case identify => exact h.takeCommand _ fun rq _ => doIdentify_sound rq
  case unknownCommand => exact h.takeCommand _ fun rq _ => doUnknown_sound rq
  case readStatus => exact h.takeCommand _ fun rq _ => doReadStatus_sound rq
  case readPort => exact h.takeCommand _ fun rq _ => doReadPort_sound rq
  case setPort => exact h.takeCommand _ fun rq _ => doSetPort_sound rq
  case enablePort => exact h.takeCommand _ fun rq _ => doEnablePort_sound rq
  case disablePort => exact h.takeCommand _ fun rq _ => doDisablePort_sound rq
  case readRule => exact h.takeCommand _ fun rq _ => doReadRule_sound rq
  case writeRule => exact h.takeCommand _ fun rq _ => doWriteRule_sound rq
  case deleteRule => exact h.takeCommand _ fun rq _ => doDeleteRule_sound rq
  case readHits => exact h.takeCommand _ fun rq _ => doReadHits_sound rq
  case readCounters => exact h.takeCommand _ fun rq _ => doReadCounters_sound rq
  case clearCountersPort => exact h.takeCommand _ fun rq _ => doClearPort_sound rq
  case clearCountersAll => exact h.takeCommand _ fun rq _ => doClearAll_sound rq
  case clearCountersHits => exact h.takeCommand _ fun rq _ => doClearHits_sound rq
  case readExchange => exact h.takeCommand _ fun rq _ => doReadExchange_sound rq
  case takeSnapshot => exact h.takeCommand _ fun rq _ => doTakeSnapshot_sound rq
  case ackAlert => exact h.takeCommand _ fun rq _ => doAckAlert_sound rq
  case setAgent => exact h.takeCommand _ fun rq _ => doSetAgent_sound rq
  case commit => exact h.takeCommand _ fun rq _ => doCommit_sound rq
  case load => exact h.takeCommand _ fun rq _ => doLoad_sound rq
  case readStore => exact h.takeCommand _ fun rq _ => doReadStore_sound rq
  case restartCold => exact h.takeCommand _ fun rq _ => doRestartCold_sound rq
  case restartWarm => exact h.takeCommand _ fun rq _ => doRestartWarm_sound rq

/-- Every step keeps the laws of the holders. -/
theorem step_sound {s t : State} (h : s.Sound []) (hs : step s = .next t) : t.Sound [] := by
  rcases step_next hs with ⟨c, l, n, hc⟩ | rfl
  · exact exec_sound (s := { s with pending := l, freeCount := n }) (h.congr rfl) hc
  · obtain ⟨n, m, b, e⟩ := s.tick_moves_time
    rw [e]
    exact h.congr rfl

end Sys2Proof.Machine
end

section
/-! SUPPORT. What is kept in the two banks, `State.bodies`: nothing but a COMMIT's acceptance and its completion writes there (R175
to R178); every other operation leaves both bodies as they are, a reset's among them. -/

namespace Sys2Proof.Machine

/-- What the two banks hold (R171). -/
def State.bodies (s : State) : List Memory := [s.store.bankA.body, s.store.bankB.body]

section
variable (s : State)

/-! ### The state's updates -/

@[simp] theorem State.withPort_bodies (p : Port) (x : PortState) : (s.withPort p x).bodies = s.bodies := rfl
@[simp] theorem State.withSeg_bodies (sg : Seg) (x : SegState) : (s.withSeg sg x).bodies = s.bodies := rfl
@[simp] theorem State.withPool_bodies (m : Pool) : (s.withPool m).bodies = s.bodies := rfl
@[simp] theorem State.withAgent_bodies (a : Agent) : (s.withAgent a).bodies = s.bodies := rfl
@[simp] theorem State.withAlert_bodies (a : AlertUnit) : (s.withAlert a).bodies = s.bodies := rfl
@[simp] theorem State.withAlertLane_bodies (x : Option (List Byte)) : (s.withAlertLane x).bodies = s.bodies := rfl
@[simp] theorem State.withRules_bodies (x : List (Option Entry)) : (s.withRules x).bodies = s.bodies := rfl
@[simp] theorem State.withRx_bodies (p : Port) (x : Receiver) : (s.withRx p x).bodies = s.bodies := rfl
@[simp] theorem State.withTx_bodies (p : Port) (x : Transmitter) : (s.withTx p x).bodies = s.bodies := rfl
@[simp] theorem State.withQueue_bodies (p : Port) (x : TxQueue) : (s.withQueue p x).bodies = s.bodies := rfl
@[simp] theorem State.withLane_bodies (p : Port) (x : Option Reply) : (s.withLane p x).bodies = s.bodies := rfl
@[simp] theorem State.withGuard_bodies (p : Port) (x : Option Nat) : (s.withGuard p x).bodies = s.bodies := rfl
@[simp] theorem State.withPendingSettings_bodies (p : Port) (x : Option Settings) :
    (s.withPendingSettings p x).bodies = s.bodies := rfl
@[simp] theorem State.withSnapshot_bodies (p : Port) (x : Option Snapshot) : (s.withSnapshot p x).bodies = s.bodies := rfl
@[simp] theorem State.withSlot_bodies (sg : Seg) (x : Slot) : (s.withSlot sg x).bodies = s.bodies := rfl
@[simp] theorem State.count_bodies (p : Port) (k : PortCounter) : (s.count p k).bodies = s.bodies := rfl
@[simp] theorem State.countExchange_bodies (sg : Seg) (k : ExchangeCounter) : (s.countExchange sg k).bodies = s.bodies := rfl
@[simp] theorem State.dropRef_bodies (b : Nat) : (s.dropRef b).bodies = s.bodies := rfl
@[simp] theorem State.enqueue_bodies (p : Port) (b : Nat) (k : DescriptorKind) (pr : Priority) :
    (s.enqueue p b k pr).bodies = s.bodies := rfl

@[simp] theorem State.countIf_bodies (c : Bool) (p : Port) (k : PortCounter) : (s.countIf c p k).bodies = s.bodies := by
  cases c <;> rfl

@[simp] theorem State.countErrors_bodies (p : Port) (e : ErrorSet) : (s.countErrors p e).bodies = s.bodies := by
  simp [State.countErrors]

@[simp] theorem State.dropRef?_bodies (b : Option Nat) : (s.dropRef? b).bodies = s.bodies := by
  cases b <;> rfl

theorem State.foldl_bodies {α : Type} {f : State → α → State} (hf : ∀ s a, (f s a).bodies = s.bodies) (l : List α) :
    (l.foldl f s).bodies = s.bodies := by
  induction l generalizing s with
  | nil => rfl
  | cons a l ih => exact (ih _).trans (hf s a)

@[simp] theorem State.dropRefs_bodies (bs : List Nat) : (s.dropRefs bs).bodies = s.bodies := by
  induction bs generalizing s with
  | nil => rfl
  | cons b bs ih => exact ih _

/-! ### Alerts, snapshots, notices, what follows -/

@[simp] theorem State.raiseCause_bodies (k : Cause) : (s.raiseCause k).bodies = s.bodies := by
  unfold State.raiseCause; split <;> rfl

@[simp] theorem State.formAlert_bodies : s.formAlert.bodies = s.bodies := by
  unfold State.formAlert; split <;> rfl

@[simp] theorem State.placeCurrentAlert_bodies : s.placeCurrentAlert.bodies = s.bodies := by
  unfold State.placeCurrentAlert; split <;> rfl

@[simp] theorem State.reportManagement_bodies (p : Port) : (s.reportManagement p).bodies = s.bodies := by
  cases p with
  | seg sg => rfl
  | trunk =>
    unfold State.reportManagement State.reportTrunkManagement
    dsimp only
    split <;> simp

@[simp] theorem State.offerSnapshot_bodies (p : Port) (k : SnapshotKind) (t : Stamp) (n : Nat) (bs : List Byte) :
    (s.offerSnapshot p k t n bs).bodies = s.bodies := by
  unfold State.offerSnapshot; split <;> simp

@[simp] theorem State.buildNotice_bodies (n : NoticeRequest) : (s.buildNotice n).bodies = s.bodies := by
  unfold State.buildNotice
  split
  · rfl
  · dsimp only
    split <;> rfl

@[simp] theorem State.noticeIf_bodies (flag : Bool) (n : NoticeRequest) : (s.noticeIf flag n).bodies = s.bodies := by
  unfold State.noticeIf; split <;> simp

@[simp] theorem State.followUp_bodies : s.followUp.bodies = s.bodies := by
  rw [State.bodies, s.followUp_startsFrom.store, State.bodies]

@[simp] theorem State.finish_bodies : s.finish.bodies = s.bodies := by
  rw [State.finish, State.followUp_bodies, State.formAlert_bodies]

/-! ### Exchanges and the dispatcher -/

@[simp] theorem State.failAttempt_bodies (sg : Seg) (r : ExchangeRecord) : (s.failAttempt sg r).bodies = s.bodies := by
  unfold State.failAttempt
  split
  · rfl
  · simp [State.exchangeFailed]

@[simp] theorem State.attemptTimedOut_bodies (sg : Seg) (r : ExchangeRecord) :
    (s.attemptTimedOut sg r).bodies = s.bodies := State.failAttempt_bodies _ sg _

@[simp] theorem State.attemptBadReply_bodies (sg : Seg) (r : ExchangeRecord) :
    (s.attemptBadReply sg r).bodies = s.bodies := State.failAttempt_bodies _ sg _

@[simp] theorem State.offerAnswerFrame_bodies (sg : Seg) (r : ExchangeRecord) (b : Nat) :
    (s.offerAnswerFrame sg r b).bodies = s.bodies := by
  unfold State.offerAnswerFrame; split <;> rfl

@[simp] theorem State.exchangeReplied_bodies (sg : Seg) (r : ExchangeRecord) (b : Nat) :
    (s.exchangeReplied sg r b).bodies = s.bodies := by
  simp [State.exchangeReplied]

@[simp] theorem State.reportArrival_bodies (p : Port) : (s.reportArrival p).bodies = s.bodies := by
  unfold State.reportArrival
  split
  · rfl
  · split <;> rfl

@[simp] theorem State.reportDiscardEnd_bodies (p : Port) : (s.reportDiscardEnd p).bodies = s.bodies := by
  unfold State.reportDiscardEnd
  split
  · rfl
  · split <;> simp

@[simp] theorem State.cancelExchange_bodies (sg : Seg) : (s.cancelExchange sg).bodies = s.bodies := by
  unfold State.cancelExchange
  split
  · rfl
  · split <;> simp

theorem State.forwardTo_bodies (src : Port) (b : Nat) (pr : Priority) (q : Port) :
    (s.forwardTo src b pr q).bodies = s.bodies := by
  unfold State.forwardTo; split <;> rfl

theorem State.dispatchExchange_bodies (src : Port) (b i : Nat) (sg : Seg) (pr : Priority) (n : Nat) (flag : Bool) :
    (s.dispatchExchange src b i sg pr n flag).bodies = s.bodies := by
  unfold State.dispatchExchange
  dsimp only
  split
  · split <;> simp
  · simp

theorem State.dispatch_bodies (src : Port) (b i : Nat) (a : Action) : (s.dispatch src b i a).bodies = s.bodies := by
  cases a with
  | drop => rfl
  | forward targets pr => exact s.foldl_bodies (fun s q => s.forwardTo_bodies src b pr q) _
  | exchange target pr retries notice => exact s.dispatchExchange_bodies src b i target pr retries notice

@[simp] theorem State.classify_bodies (src : Port) (b : Nat) : (s.classify src b).bodies = s.bodies := by
  unfold State.classify
  split
  · rfl
  · exact State.dispatch_bodies _ _ _ _ _

/-! ### The lines -/

@[simp] theorem State.takeManagementFrame_bodies (p : Port) (b : Nat) : (s.takeManagementFrame p b).bodies = s.bodies := by
  unfold State.takeManagementFrame State.joinInput
  split <;> simp

@[simp] theorem State.dropOrFailAttempt_bodies (p : Port) (b : Nat) : (s.dropOrFailAttempt p b).bodies = s.bodies := by
  unfold State.dropOrFailAttempt
  split
  · rfl
  · split <;> simp

@[simp] theorem State.routeOrdinary_bodies (p : Port) (b : Nat) : (s.routeOrdinary p b).bodies = s.bodies := by
  unfold State.routeOrdinary; split <;> simp

theorem State.routeClean_bodies (p : Port) (b : Nat) : (s.routeClean p b).bodies = s.bodies := by
  unfold State.routeClean
  split
  · exact s.routeOrdinary_bodies _ _
  · split
    · unfold State.judgeAnswer
      split <;> simp
    · unfold State.judgeLate
      split <;> simp
    · exact s.routeOrdinary_bodies _ _

@[simp] theorem State.complete_bodies (p : Port) (f : Assembly) : (s.complete p f).bodies = s.bodies := by
  unfold State.complete
  dsimp only
  split
  · exact State.routeClean_bodies _ _ _
  · simp [State.routeErrored]

@[simp] theorem State.guardFromCharacter_bodies (p : Port) (t : Nat) : (s.guardFromCharacter p t).bodies = s.bodies := by
  cases p <;> rfl

theorem State.arrive_bodies (p : Port) : (s.arrive p).bodies = s.bodies := by
  unfold State.arrive
  dsimp only
  split
  · rfl
  · split
    · rfl
    · rfl
    · unfold State.arriveIdle
      dsimp only
      split <;> simp
    · rfl
    · rfl

theorem State.takeCharacter_bodies (p : Port) (data : Byte) (parity framing : Bool) (t : Nat) :
    (s.takeCharacter p data parity framing t).bodies = s.bodies := by
  unfold State.takeCharacter
  split
  · rfl
  · rfl
  · rfl
  · unfold State.assemble
    split <;> simp
  all_goals simp

theorem State.receive_bodies (p : Port) (data : Byte) (a b : Bool) : (s.receive p data a b).bodies = s.bodies := by
  unfold State.receive
  dsimp only
  split
  · rfl
  · split
    · rfl
    · exact s.takeCharacter_bodies _ _ _ _ _

theorem State.releaseHeld_bodies (p : Port) : (s.releaseHeld p).bodies = s.bodies := by
  unfold State.releaseHeld
  split
  · rfl
  · exact s.takeCharacter_bodies _ _ _ _ _

@[simp] theorem State.storeBreakByte_bodies (f : Assembly) : (s.storeBreakByte f).bodies = s.bodies := by
  unfold State.storeBreakByte; split <;> rfl

theorem State.declareBreak_bodies (p : Port) : (s.declareBreak p).bodies = s.bodies := by
  unfold State.declareBreak
  split
  · rfl
  · split <;> simp

theorem State.lineHigh_bodies (p : Port) : (s.lineHigh p).bodies = s.bodies := by
  unfold State.lineHigh; split <;> rfl

theorem State.gapExpires_bodies (p : Port) : (s.gapExpires p).bodies = s.bodies := by
  unfold State.gapExpires
  split
  · split <;> simp
  · rfl

/-! ### Resets -/

@[simp] theorem State.beginStartup_bodies : s.beginStartup.bodies = s.bodies := rfl
@[simp] theorem State.coldWipe_bodies (k : ResetCause) : (s.coldWipe k).bodies = s.bodies := rfl

@[simp] theorem State.abortSending_bodies (p : Port) : (s.abortSending p).bodies = s.bodies := by
  unfold State.abortSending; split <;> simp

@[simp] theorem State.warmSlot_bodies (sg : Seg) : (s.warmSlot sg).bodies = s.bodies := by
  unfold State.warmSlot
  dsimp only
  split <;> rfl

theorem State.warmReset_bodies : s.warmReset.bodies = s.bodies := by
  have ports := s.foldl_bodies (f := State.warmPort) (fun s p => by simp [State.warmPort]) Port.list
  have slots (t : State) : (Seg.list.foldl State.warmSlot t).bodies = t.bodies := t.foldl_bodies State.warmSlot_bodies Seg.list
  have begun (t : State) (k : ResetCause) (m : Pool) (a : Agent) (u : AlertUnit) :
      (State.beginStartup { t with resetCause := k, pool := m, alertLane := none, agent := a, alert := u }).bodies = t.bodies :=
    rfl
  rw [State.warmReset, begun, slots, ports]

@[simp] theorem State.restart_bodies (f : RestartForm) : (s.restart f).bodies = s.bodies := by
  cases f with
  | cold => rfl
  | warm => exact s.warmReset_bodies

theorem State.leaveReset_bodies : s.leaveReset.bodies = s.bodies := by
  unfold State.leaveReset; split <;> rfl

/-! ### Replies -/

@[simp] theorem State.settleAddress_bodies (id : Nat) : (s.settleAddress id).bodies = s.bodies := by
  unfold State.settleAddress
  split
  · rfl
  · split <;> rfl

@[simp] theorem State.settleReply_bodies (r : Reply) : (s.settleReply r).bodies = s.bodies := by
  unfold State.settleReply; split <;> simp

@[simp] theorem State.offerReply_bodies (p : Port) (r : Reply) : (s.offerReply p r).bodies = s.bodies := by
  unfold State.offerReply
  split
  · exact s.settleReply_bodies r
  · split <;> rfl

@[simp] theorem State.answer_bodies (rq : Request) (o : CommandOutcome) (body : List Byte) (f : Option RestartForm) :
    (s.answer rq o body f).bodies = s.bodies := State.offerReply_bodies _ _ _

@[simp] theorem State.answerPlain_bodies (rq : Request) (o : CommandOutcome) : (s.answerPlain rq o).bodies = s.bodies :=
  s.answer_bodies rq o [] none

@[simp] theorem State.laneFree_bodies (p : Port) : (s.laneFree p).bodies = s.bodies := by
  unfold State.laneFree
  split
  · rfl
  · split
    · rfl
    · split <;> rfl

@[simp] theorem State.offerDeferred_bodies (o : CommandOutcome) : (s.offerDeferred o).bodies = s.bodies := by
  unfold State.offerDeferred
  split
  · rfl
  · dsimp only
    split
    · exact State.settleReply_bodies _ _
    · split <;> rfl

@[simp] theorem State.settleLost_bodies (r : Option Reply) : (s.settleLost r).bodies = s.bodies := by
  cases r with
  | none => rfl
  | some r => exact s.settleAddress_bodies r.id

@[simp] theorem State.loseDeferred_bodies (p : Port) : (s.loseDeferred p).bodies = s.bodies := by
  unfold State.loseDeferred
  split
  · rfl
  · split
    · rfl
    · split
      · exact State.settleAddress_bodies _ _
      · rfl

/-! ### Guard, send end and timers -/

theorem State.guardExpires_bodies (sg : Seg) (e : Bool) : (s.guardExpires sg e).bodies = s.bodies := by
  unfold State.guardExpires
  split
  · rfl
  · rfl
  all_goals
    split
    · rfl
    · exact State.followUp_bodies _

theorem State.slotSettles_bodies (p : Port) : (s.slotSettles p).bodies = s.bodies := by
  unfold State.slotSettles
  split
  · rfl
  · split <;> rfl

theorem State.finishDescriptor_bodies (p : Port) (d : Descriptor) : (s.finishDescriptor p d).bodies = s.bodies := by
  unfold State.finishDescriptor
  split
  · split <;> rfl
  all_goals exact State.slotSettles_bodies _ p

theorem State.finishRetry_bodies (p : Port) (b : Nat) : (s.finishRetry p b).bodies = s.bodies := by
  unfold State.finishRetry; split <;> rfl

theorem State.finishReply_bodies (p : Port) : (s.finishReply p).bodies = s.bodies := by
  unfold State.finishReply
  split
  · rfl
  · split <;> simp

theorem State.finishAlert_bodies : s.finishAlert.bodies = s.bodies := by
  unfold State.finishAlert; split <;> simp

theorem State.finishCurrent_bodies (p : Port) (cur : Current) : (s.finishCurrent p cur).bodies = s.bodies := by
  cases cur with
  | descriptor d => exact s.finishDescriptor_bodies p d
  | retry b => exact s.finishRetry_bodies p b
  | reply => exact s.finishReply_bodies p
  | alert => exact s.finishAlert_bodies

theorem State.sendEnds_bodies (p : Port) : (s.sendEnds p).bodies = s.bodies := by
  unfold State.sendEnds
  split
  · rfl
  · rfl
  · rfl
  · rw [State.followUp_bodies, State.finishCurrent_bodies]
    rfl

theorem State.responseExpires_bodies (sg : Seg) : (s.responseExpires sg).bodies = s.bodies := by
  unfold State.responseExpires; split <;> simp

theorem State.lapseExpires_bodies (sg : Seg) : (s.lapseExpires sg).bodies = s.bodies := by
  unfold State.lapseExpires; split <;> simp

theorem State.settleExpires_bodies (sg : Seg) : (s.settleExpires sg).bodies = s.bodies := by
  unfold State.settleExpires; split <;> simp

theorem State.repeatExpires_bodies : s.repeatExpires.bodies = s.bodies := by
  unfold State.repeatExpires
  split
  · split <;> simp
  · rfl

/-! ### Loads -/

theorem State.loadCompletes_bodies : s.loadCompletes.bodies = s.bodies := by
  have records (t : State) (r : PerPort PortRecord) : (t.placeRecords r).bodies = t.bodies :=
    t.foldl_bodies (f := fun s p => s.withPendingSettings p (some (r.get p).settings)) (fun _ _ => rfl) _
  unfold State.loadCompletes
  split
  · rw [State.applyLoad, State.followUp_bodies, records, State.withRules_bodies, State.offerDeferred_bodies]
    rfl
  all_goals rfl

theorem State.bringUp_bodies (p : Port) (r : PortRecord) : (s.bringUp p r).bodies = s.bodies := by
  cases p <;> rfl

theorem State.applyStartup_bodies (pr : Profile) : (s.applyStartup pr).bodies = s.bodies := by
  have idle (t : State) : (t.withStore { t.store with state := .idle }).bodies = t.bodies := rfl
  have ports (t : State) : (Port.list.foldl (fun s p => s.bringUp p (pr.ports.get p)) t).bodies = t.bodies :=
    t.foldl_bodies (fun t p => t.bringUp_bodies p (pr.ports.get p)) Port.list
  rw [State.applyStartup, idle, ports, State.formAlert_bodies, State.raiseCause_bodies, State.withAgent_bodies,
    State.withRules_bodies]

theorem State.startupCompletes_bodies : s.startupCompletes.bodies = s.bodies := by
  unfold State.startupCompletes
  split
  · rw [State.followUp_bodies, State.applyStartup_bodies]
  all_goals rfl

/-! ### The commands -/

@[simp] theorem State.enablePort_bodies (p : Port) : (s.enablePort p).bodies = s.bodies := by
  unfold State.enablePort
  dsimp only
  split
  · rfl
  · cases p <;> rfl

@[simp] theorem State.disableSegment_bodies (sg : Seg) : (s.disableSegment sg).bodies = s.bodies := by
  unfold State.disableSegment
  split
  · simp [State.receiverOff, State.flushQueue]
  · rfl

@[simp] theorem State.restartIf_bodies (f : Option RestartForm) : (s.restartIf f).bodies = s.bodies := by
  cases f <;> simp [State.restartIf]

@[simp] theorem State.zeroPort_bodies (p : Port) : (s.zeroPort p).bodies = s.bodies := by
  cases p <;> rfl

@[simp] theorem State.acknowledge_bodies : s.acknowledge.bodies = s.bodies := State.formAlert_bodies _

variable {s} in
theorem State.checked_bodies {α : Type} {rq : Request} {k : Permit} {read : List Byte → Option α} {act : α → State}
    (ha : ∀ x, (act x).bodies = s.bodies) : (s.checked rq k read act).bodies = s.bodies := by
  unfold State.checked
  split
  · split <;> simp [ha]
  · simp

end

/-! ### The canonical form of both banks -/

/-- Both banks are in canonical form. -/
def State.BanksWf (s : State) : Prop := ∀ m ∈ s.bodies, Memory.wf m

theorem State.memoryWf_iff (s : State) : s.memoryWf ↔ Memory.wf s.pool.ram ∧ s.BanksWf := by
  simp [State.memoryWf, State.BanksWf, State.bodies]

section
variable {s t : State}

theorem State.BanksWf.congr (h : s.BanksWf) (e : t.bodies = s.bodies) : t.BanksWf := by
  rw [State.BanksWf, e]
  exact h

/-- A bank written with a body in canonical form. -/
theorem State.BanksWf.withBank (h : s.BanksWf) (id : BankId) {x : Bank} (hx : Memory.wf x.body) (st : StoreState) :
    (s.withStore { s.store.withBank id x with state := st }).BanksWf := by
  simp only [State.BanksWf, State.bodies, List.forall_mem_cons, List.not_mem_nil, false_imp_iff, implies_true, and_true] at h ⊢
  obtain ⟨a, b⟩ := h
  cases id
  · exact ⟨hx, b⟩
  · exact ⟨a, hx⟩

theorem State.BanksWf.commitCompletes (h : s.BanksWf) (wrong : List (Nat × Byte)) : (s.commitCompletes wrong).BanksWf := by
  unfold State.commitCompletes
  split
  · rename_i j _
    have ended : (s.endCommit j wrong).BanksWf := h.withBank j.target (Memory.wf_ofBytes 4 _) .idle
    split <;> exact ended.congr (by simp)
  · exact h
  · exact h
  · exact h

theorem doCommit_banksWf (rq : Request) (h : s.BanksWf) : (doCommit rq s).BanksWf := by
  unfold doCommit State.checked
  split
  · split
    · exact h.congr (s.answerPlain_bodies _ _)
    · exact State.BanksWf.withBank (s := s.formDeferred rq) h _ Memory.wf_nil _
  · exact h.congr (s.answerPlain_bodies _ _)

theorem State.BanksWf.takeCommand (h : s.BanksWf) (i : Instr) {f : Request → State → State}
    (hf : ∀ rq t, State.BanksWf t → (f rq t).BanksWf) : (s.takeCommand i f).BanksWf := by
  unfold State.takeCommand
  split
  · split
    · exact h
    · rename_i e _ _
      have taken : (s.afterTake e).BanksWf := h.congr rfl
      split
      · exact taken.congr (State.followUp_bodies _)
      · exact (hf _ _ taken).congr (State.followUp_bodies _)
  · exact h

/-- A command that leaves the banks as they are is taken. -/
theorem State.BanksWf.takeQuiet (h : s.BanksWf) (i : Instr) {f : Request → State → State}
    (hf : ∀ rq t, (f rq t).bodies = t.bodies) : (s.takeCommand i f).BanksWf :=
  h.takeCommand i fun rq t ht => ht.congr (hf rq t)

theorem State.BanksWf.whenClocked (h : s.BanksWf) {f : State → State} (hf : (f s).bodies = s.bodies) :
    (s.whenClocked f).BanksWf := by
  unfold State.whenClocked
  split
  · exact h.congr hf
  · exact h

/-- Every command keeps both banks in canonical form. -/
theorem exec_banksWf {c : Instr} (h : s.BanksWf) (hc : exec c s = .next t) : t.BanksWf := by
  cases c
  case commitCompletion w =>
    simp only [exec, execCommitCompletion, State.whenClocked] at hc
    split at hc
    · injection hc with hc
      subst hc
      split
      · exact h.commitCompletes w
      · exact h
    · nomatch hc
  all_goals injection hc with hc; subst hc
  case characterArrival p => exact h.whenClocked (s.arrive_bodies p)
  case characterReceived p d a b => exact h.whenClocked (s.receive_bodies p d a b)
  case heldCharacterReleased p => exact h.whenClocked (s.releaseHeld_bodies p)
  case breakDeclared p => exact h.whenClocked (s.declareBreak_bodies p)
  case gapTimerExpiry p => exact h.whenClocked (s.gapExpires_bodies p)
  case turnaroundGuardExpiry g x => exact h.whenClocked (s.guardExpires_bodies g x)
  case sendEnd p => exact h.whenClocked (s.sendEnds_bodies p)
  case responseTimerExpiry g => exact h.whenClocked (s.responseExpires_bodies g)
  case lapseTimerExpiry g => exact h.whenClocked (s.lapseExpires_bodies g)
  case settleTimerExpiry g => exact h.whenClocked (s.settleExpires_bodies g)
  case repeatTimerExpiry => exact h.whenClocked s.repeatExpires_bodies
  case loadCompletion => exact h.whenClocked s.loadCompletes_bodies
  case startupLoadCompletion => exact h.whenClocked s.startupCompletes_bodies
  case lineReturnsHighAfterBreak p => exact h.whenClocked (s.lineHigh_bodies p)
  case powerReset => exact h.congr rfl
  case supplyReset =>
    unfold State.supplyFalls
    split <;> exact h.congr rfl
  case supplyRelease =>
    unfold State.supplyReleases
    split
    · exact h.congr (State.leaveReset_bodies _)
    · exact h.congr (State.leaveReset_bodies _)
    · exact h
    · exact h
  case pinReset =>
    unfold State.pinFalls
    split <;> exact h.congr rfl
  case pinResetEnd =>
    unfold State.pinRises
    split
    · exact h.congr (State.leaveReset_bodies _)
    · exact h
  case vddFallsBelow1V2 => exact h.congr rfl
  case clkinStops => exact h.congr rfl
  case clkinReturns => exact h.congr rfl
  case commit => exact h.takeCommand _ fun rq _ ht => doCommit_banksWf rq ht
  case setPort => exact h.takeQuiet _ fun rq _ => State.checked_bodies fun _ => by simp
  case readRule => exact h.takeQuiet _ fun rq _ => State.checked_bodies fun _ => by split <;> simp
  case deleteRule => exact h.takeQuiet _ fun rq _ => State.checked_bodies fun _ => by split <;> simp
  case takeSnapshot => exact h.takeQuiet _ fun rq _ => State.checked_bodies fun _ => by split <;> simp
  case ackAlert =>
    refine h.takeQuiet _ fun rq _ => State.checked_bodies fun _ => ?_
    split
    · simp
    · split <;> simp
  case load =>
    refine h.takeQuiet _ fun rq _ => State.checked_bodies fun _ => ?_
    split
    · simp
    · rfl
  case clearCountersAll =>
    refine h.takeQuiet _ fun rq t => State.checked_bodies fun _ => ?_
    exact (State.answerPlain_bodies _ _ _).trans (t.foldl_bodies State.zeroPort_bodies Port.list)
  case unknownCommand => exact h.takeQuiet _ fun rq t => t.answerPlain_bodies rq _
  case clearCountersPort =>
    exact h.takeQuiet _ fun rq t => State.checked_bodies fun p => (State.answerPlain_bodies _ _ _).trans (t.zeroPort_bodies p)
  all_goals exact h.takeQuiet _ fun rq t => State.checked_bodies fun _ => by simp [State.setAgentSettings, State.clearWatermark]

/-- Every command keeps the law of the pool and the canonical form of its memory (R37). -/
theorem exec_poolLaws {c : Instr} (lawful : s.pool.lawful) (ram : Memory.wf s.pool.ram) (hc : exec c s = .next t) :
    t.pool.lawful ∧ Memory.wf t.pool.ram := by
  cases outside : isOutside c with
  | false =>
    obtain ⟨_, _, _, _, _, _, pool⟩ := exec_evolves outside hc
    exact ⟨Pool.lawful_of_reaches pool lawful, Pool.ram_wf_of_reaches pool ram⟩
  | true =>
    have afresh (w : Nat) : (s.pool.afresh w).lawful ∧ Memory.wf (s.pool.afresh w).ram := ⟨Pool.lawful_afresh _ w, ram⟩
    have leave (u : State) : u.leaveReset.pool = u.pool := by
      unfold State.leaveReset
      split <;> rfl
    cases c <;> simp only [isOutside, Bool.false_eq_true] at outside
    all_goals injection hc with hc; subst hc
    case powerReset => exact afresh _
    case supplyReset =>
      unfold State.supplyFalls
      split
      · exact afresh _
      · exact afresh _
      · exact ⟨lawful, ram⟩
      · exact ⟨lawful, ram⟩
    case supplyRelease =>
      unfold State.supplyReleases
      split
      · rw [leave]
        exact ⟨lawful, ram⟩
      · rw [leave]
        exact ⟨lawful, ram⟩
      · exact ⟨lawful, ram⟩
      · exact ⟨lawful, ram⟩
    case pinReset =>
      unfold State.pinFalls
      split
      · exact afresh _
      · exact afresh _
      · exact afresh _
      · exact ⟨lawful, ram⟩
    case pinResetEnd =>
      unfold State.pinRises
      split
      · rw [leave]
        exact ⟨lawful, ram⟩
      · exact ⟨lawful, ram⟩
    case vddFallsBelow1V2 => exact ⟨Pool.lawful_afresh _ _, Memory.wf_nil⟩
    case clkinStops => exact ⟨lawful, ram⟩
    case clkinReturns => exact ⟨lawful, ram⟩

/-- Every step keeps the law of the pool and the canonical form of all memory. -/
theorem step_memoryLaws (lawful : s.pool.lawful) (wf : s.memoryWf) (hs : step s = .next t) : t.pool.lawful ∧ t.memoryWf := by
  rw [State.memoryWf_iff] at wf ⊢
  obtain ⟨ram, banks⟩ := wf
  rcases step_next hs with ⟨c, l, n, hc⟩ | rfl
  · obtain ⟨lawful', ram'⟩ := exec_poolLaws (s := { s with pending := l, freeCount := n }) lawful ram hc
    exact ⟨lawful', ram', exec_banksWf (s := { s with pending := l, freeCount := n }) banks hc⟩
  · obtain ⟨n, m, b, e⟩ := s.tick_moves_time
    rw [e]
    exact ⟨lawful, ram, banks⟩

end

/-- Settles O54. The pool and the banks change by operations that keep their laws; the laws of the holders are one invariant
over `State.ledger`, kept by every command. -/
theorem stepKeepsPoolAndMemoryLaws : Obligations.StepKeepsPoolAndMemoryLaws := by
  unfold Obligations.StepKeepsPoolAndMemoryLaws
  refine ⟨fun _ _ => step_memoryLaws, fun s t h hs => ?_⟩
  rw [State.holdersOk_iff] at h ⊢
  exact step_sound h hs

end Sys2Proof.Machine
end

section
/-! SUPPORT. The step with nothing waiting: which event is next, and the tick (R22, R194). -/

namespace Sys2Proof.Machine

section
variable (s : State)

/-- What a tick makes of the time base and its part of a microsecond, written out (R22, R194). -/
theorem State.tick_eq :
    s.tick =
      if s.clockRunning = true then
        { s with
          now := s.now + 1
          subMicro :=
            if s.supply = .ok ∧ s.pinHeld = false then (if s.subMicro + 1 < 288 then s.subMicro + 1 else 0) else s.subMicro
          timeBase :=
            if s.supply = .ok ∧ s.pinHeld = false ∧ 288 ≤ s.subMicro + 1 then s.timeBase + 1#32 else s.timeBase }
      else s := by
  unfold State.tick
  split
  · by_cases out : s.supply = .ok ∧ s.pinHeld = false
    · obtain ⟨supply, pin⟩ := out
      have free : s.heldInReset = false := by simp [State.heldInReset, supply, pin]
      rw [free]
      by_cases part : s.subMicro + 1 < 288
      · simp [State.countTime, Config.finePerMicro, supply, pin, part, Nat.not_le.mpr part]
      · simp [State.countTime, Config.finePerMicro, supply, pin, part, Nat.not_lt.mp part]
    · have held : s.heldInReset = true := by
        by_cases supply : s.supply = .ok
        · simpa [State.heldInReset, supply] using out
        · simp [State.heldInReset, supply]
      have no : ¬ (s.supply = .ok ∧ s.pinHeld = false ∧ 288 ≤ s.subMicro + 1) := fun h => out ⟨h.1, h.2.1⟩
      rw [held, if_pos rfl, if_neg out, if_neg no]
  · rfl

variable {s}

theorem step_of_nextEvent {c : Instr} {t : State} (empty : s.pending = []) (h : s.nextEvent = some (c, t)) :
    step s = exec c t := by
  simp only [step, empty, h]

theorem step_of_noEvent (empty : s.pending = []) (h : s.nextEvent = none) : step s = .next s.tick := by
  simp only [step, empty, h]

/-- Of several events that are due, one is taken and a free value is used up (log 5). -/
theorem State.nextEvent_several {c d : Instr} {others : List Instr} (h : s.dueEvents = c :: d :: others) :
    s.nextEvent = some (s.pickEvent c (d :: others), { s with freeCount := s.freeCount + 1 }) := by
  rw [State.nextEvent, h]

end

/-- Settles O2, by the number of events that are due. -/
theorem emptyQueueTakesDueEventOrTicks : Obligations.EmptyQueueTakesDueEventOrTicks := by
  intro s empty
  refine ⟨fun due => ?_, fun c due => ?_, fun c d others due => ?_⟩
  · rw [step_of_noEvent empty (by rw [State.nextEvent, due]), State.tick_eq]
  · exact step_of_nextEvent empty (by rw [State.nextEvent, due])
  · have next := State.nextEvent_several due
    exact ⟨_, (State.nextEvent_eq next).1, step_of_nextEvent empty next⟩

end Sys2Proof.Machine
end

section
/-! SUPPORT. An arrival on an IDLE receiver, with a buffer reserved or as NOBUF, and the end of an errored frame (R11, R24, R25,
R31, R95). -/

namespace Sys2Proof.Machine

section
variable {s : State} {p : Port}

/-! ### What the slot hears -/

/-- The segments once an arrival on port `p` has been reported (R95). -/
def State.segsHeard (s : State) (p : Port) : PerSeg SegState :=
  match p with
  | .trunk => s.segs
  | .seg sg => s.segs.set sg { s.seg sg with slot := (s.seg sg).slot.heard s.now }

/-- Only a slot in AWAITING hears of an arrival (R95). -/
theorem State.reportArrival_eq (s : State) (p : Port) : s.reportArrival p = { s with segs := s.segsHeard p } := by
  cases p with
  | trunk => rfl
  | seg sg =>
    unfold State.reportArrival
    dsimp only
    split
    · rename_i r due hslot
      have heard : (s.seg sg).slot.heard s.now = .receiving { r with remaining := some (s.millisLeft due) } := by
        rw [hslot]
        rfl
      rw [State.segsHeard, heard]
      rfl
    · rename_i deaf
      have same : (s.seg sg).slot.heard s.now = (s.seg sg).slot := by
        unfold Slot.heard
        split
        · rename_i r due hslot
          exact absurd hslot (deaf r due)
        · rfl
      rw [State.segsHeard, same]
      exact (congrArg (fun x => { s with segs := x }) (PerSeg.set_get_self s.segs sg)).symm

theorem State.segsHeard_get (s : State) (p : Port) (sg : Seg) :
    (s.segsHeard p).get sg = { s.seg sg with slot := if p = .seg sg then (s.seg sg).slot.heard s.now else (s.seg sg).slot } := by
  cases p with
  | trunk => rfl
  | seg q =>
    by_cases hq : sg = q
    · subst hq
      simp [State.segsHeard]
    · have ne : Port.seg q ≠ Port.seg sg := fun e => hq (Port.seg.inj e).symm
      rw [if_neg ne]
      exact PerSeg.get_set_ne _ hq _

theorem State.reportArrival_ignoresAlert (p : Port) : State.IgnoresAlert fun s => s.reportArrival p := by
  simp only [State.reportArrival_eq]
  exact ⟨fun _ _ => rfl, fun _ => rfl, fun _ => rfl⟩

/-! ### The arrival -/

theorem State.arrive_idle (h : s.LineOpen p) (hrx : (s.port p).rx.state = .idle) : s.arrive p = s.arriveIdle p := by
  rw [State.arrive, h.not_held]
  simp [hrx]

end

/-- Settles O9: the reserved buffer and the receiver are one update each, and the slot hears of the arrival. -/
theorem arrivalReservesABuffer : Obligations.ArrivalReservesABuffer := by
  intro s p b rest isOpen hrx hfree
  refine ⟨s.segsHeard p, ?_, s.segsHeard_get p⟩
  rw [exec_characterArrival isOpen.clock, State.arrive_idle isOpen hrx, State.arriveIdle]
  simp only [Pool.reserve, hfree]
  rw [State.reportArrival_eq]
  rfl

/-- The port that has refused a character for want of a buffer: DISCARDING with the gap timer started, counted, a snapshot offered
(R11, R25). -/
def State.refusingPort (s : State) (p : Port) : PortState :=
  { s.port p with
    rx := ⟨.discarding .refused, none, false, some s.now⟩
    counters := (s.port p).counters.bump .nobuf
    snapshot := snapshotAfter (s.port p).snapshot .nobuf (s.stampAt (s.now - (s.port p).settings.bitFine / 2)) 0 [] }

/-- An arrival without a buffer is one update of the port and the slot, then its causes (R25, R156). -/
theorem State.arriveIdle_refused {s : State} {p : Port} (hfree : s.pool.free = []) :
    s.arriveIdle p =
      (({ s with ports := s.ports.set p (s.refusingPort p), segs := s.segsHeard p }).raiseCauses
        (s.snapshotCause p ++ [Cause.pool])).finish := by
  have refused : ((s.withRx p ⟨.discarding .refused, none, false, some s.now⟩).count p .nobuf).offerSnapshot p .nobuf
      (s.stampAt (s.leadingEdge (s.port p).settings)) 0 [] =
        (s.withPort p (s.refusingPort p)).raiseCauses (s.snapshotCause p) := by
    rw [State.offerSnapshot_eq, State.snapshotCause_congr (s := s)]
    · simp [State.count, State.withRx, State.withSnapshot, State.refusingPort]
      rfl
    · simp
  have raised (t : State) (ks : List Cause) (k : Cause) : (t.raiseCauses ks).raiseCause k = t.raiseCauses (ks ++ [k]) := by
    simp [State.raiseCauses]
  unfold State.arriveIdle
  simp only [Pool.reserve, hfree]
  rw [refused, raised, (State.reportArrival_ignoresAlert p).raiseCauses, State.reportArrival_eq]
  rfl

/-- Settles O10: the refusal's updates first, then the alert of its causes. -/
theorem arrivalWithoutABufferIsNobuf : Obligations.ArrivalWithoutABufferIsNobuf := by
  intro s p isOpen hrx hfree
  refine ⟨s.segsHeard p, _, ?_, State.followUp_startsFrom _, s.segsHeard_get p, State.formAlert_raiseCauses _ _⟩
  rw [exec_characterArrival isOpen.clock, State.arrive_idle isOpen hrx, State.arriveIdle_refused hfree]
  rfl

/-! ### The end of an errored frame -/

section
variable {s : State} {p : Port} {f : Assembly}

/-- A running gap timer that expires over a frame completes it (R11, R28). -/
theorem State.gapExpires_completing (h : s.Completing p f) :
    s.gapExpires p = ((s.withRx p (Receiver.fresh .idle)).complete p f).finish := by
  rw [State.gapExpires, if_pos (Option.isSome_iff_ne_none.mpr h.timer)]
  rcases h.state with hrx | hrx <;> rw [hrx]

/-- An errored frame that completes: its counts and snapshot offer, the causes, then what becomes of the buffer (R28, R29,
R31). -/
theorem State.complete_errored {rx : Receiver} (h : s.Completing p f) (errors : s.errorsOf p f ≠ ErrorSet.empty) :
    (s.withRx p rx).complete p f =
      ((s.errored p rx f.buffer f.length (s.errorsOf p f) f.endStamp).raiseCauses (s.snapshotCause p)).dropOrFailAttempt p
        f.buffer := by
  have held : f.buffer < s.pool.lens.length := by simpa [h.lens] using h.buffer
  have frame : (s.pool.setLength f.buffer f.length).frame f.buffer = s.assembled f := Pool.frame_setLength held
  have judged : (((s.withRx p rx).withPool (s.pool.setLength f.buffer f.length)).count p .rxframes).completionErrors p f.errors
      (s.assembled f) = s.errorsOf p f := by
    simp [State.completionErrors, State.errorsOf]
  have errored : (s.errorsOf p f).isEmpty = false := by simpa [ErrorSet.isEmpty] using errors
  unfold State.complete
  dsimp only
  simp only [State.withRx_pool, State.count_pool, State.withPool_pool, frame, judged]
  rw [errored, if_neg (by simp), State.routeErrored]
  exact congrArg (State.dropOrFailAttempt · p f.buffer) (State.errored_eq held (s.errorsOf p f) f.endStamp rfl)

end

/-- Settles O21: the frame completes as an errored one, and no slot takes it. -/
theorem erroredFrameIsCountedAndReleased : Obligations.ErroredFrameIsCountedAndReleased := by
  intro s p f h errors hslot
  rw [exec_gapTimerExpiry h.clock, State.gapExpires_completing h, State.complete_errored h errors]
  refine ⟨_, _, rfl, State.followUp_startsFrom _, rfl, ?_⟩
  have unjudged : ∀ sg, p = .seg sg → ∀ r,
      ((s.errored p (Receiver.fresh .idle) f.buffer f.length (s.errorsOf p f) f.endStamp).seg sg).slot ≠ .receiving r := hslot
  exact State.dropOrFailAttempt_unjudged unjudged _ _

end Sys2Proof.Machine
end

section
/-! SUPPORT. The bounds of queues, aging counters, the agent's input queue, repeats and the fine count (R72, R79, R120, R159, log 2)
as one predicate, `State.Fits`, and that every operation of the part keeps it: a descriptor joins a queue only where the offer was
ACCEPTED, a frame joins the input queue only below 4 entries, an alert is repeated only below 3 repeats. -/

namespace Sys2Proof.Machine

/-- `State.bounded` but for the length of the rule table, which is a law of the configuration. -/
structure State.Fits (s : State) : Prop where
  queues : ∀ p, (s.port p).queue.bounded
  input : s.agent.input.length ≤ Config.inputLimit
  repeats : s.alert.repeatCount ≤ Config.repeatLimit
  micro : s.subMicro < Config.finePerMicro

theorem State.bounded_iff (s : State) : s.bounded ↔ s.Fits ∧ s.rules.length = Config.ruleEntries := by
  constructor
  · rintro ⟨queues, input, rules, repeats, micro⟩
    exact ⟨⟨fun p => queues p (Port.mem_list p), input, repeats, micro⟩, rules⟩
  · rintro ⟨⟨queues, input, repeats, micro⟩, rules⟩
    exact ⟨fun p _ => queues p, input, rules, repeats, micro⟩

/-! ### Queues -/

theorem TxQueue.empty_bounded : TxQueue.empty.bounded := by decide

theorem TxQueue.depth_push (q : TxQueue) (d : Descriptor) : (q.push d).depth = q.depth + 1 := by
  unfold TxQueue.push TxQueue.depth
  split
  · simp only [List.length_append, List.length_singleton]
    omega
  · simp only [List.length_append, List.length_singleton]
    omega

theorem TxQueue.aging_push (q : TxQueue) (d : Descriptor) : (q.push d).aging = q.aging := by
  unfold TxQueue.push
  split <;> rfl

/-- A queue that is not full has room for one more descriptor (R72, R73). -/
theorem TxQueue.bounded.push {q : TxQueue} (h : q.bounded) (room : q.depth < Config.queueLimit) (d : Descriptor) :
    (q.push d).bounded := by
  rw [TxQueue.bounded, TxQueue.depth_push, TxQueue.aging_push]
  exact ⟨room, h.2⟩

/-- A grant takes a descriptor away, and counts a passed NORMAL part only below the aging limit (R79). -/
theorem TxQueue.bounded.grant {q rest : TxQueue} (h : q.bounded) {d : Descriptor} (hg : q.grant = some (.take d rest)) :
    rest.bounded := by
  obtain ⟨depth, aging⟩ := h
  unfold TxQueue.depth at depth
  unfold TxQueue.grant at hg
  unfold TxQueue.bounded TxQueue.depth
  split at hg
  · nomatch hg
  · rename_i hu hn
    cases hg
    simp only [hu, hn, List.length_cons, List.length_nil] at depth ⊢
    exact ⟨by omega, Nat.zero_le _⟩
  · rename_i hu hn
    cases hg
    simp only [hu, hn, List.length_cons, List.length_nil] at depth ⊢
    exact ⟨by omega, Nat.zero_le _⟩
  · rename_i hu hn
    simp only [hu, hn, List.length_cons] at depth
    split at hg
    · cases hg
      simp only [List.length_cons]
      exact ⟨by omega, Nat.zero_le _⟩
    · rename_i young
      cases hg
      simp only [List.length_cons]
      exact ⟨by omega, by omega⟩

section
variable {s t : State}

/-! ### The state's updates -/

/-- The bounds look at the ports, the agent, the alert unit and the fine count alone. -/
theorem State.Fits.congr (h : s.Fits) (ports : t.ports = s.ports) (agent : t.agent = s.agent) (alert : t.alert = s.alert)
    (micro : t.subMicro = s.subMicro) : t.Fits where
  queues p := by rw [State.port, ports]; exact h.queues p
  input := by rw [agent]; exact h.input
  repeats := by rw [alert]; exact h.repeats
  micro := by rw [micro]; exact h.micro

theorem State.Fits.withPort (h : s.Fits) {p : Port} {x : PortState} (hx : x.queue.bounded) : (s.withPort p x).Fits where
  queues q := by
    by_cases hq : q = p
    · subst hq; rw [State.withPort_port_self]; exact hx
    · rw [State.withPort_port_ne _ _ _ hq]; exact h.queues q
  input := h.input
  repeats := h.repeats
  micro := h.micro

/-- A change of a port beside its queue. -/
theorem State.Fits.alterPort (h : s.Fits) {p : Port} {x : PortState} (hx : x.queue = (s.port p).queue := by rfl) :
    (s.withPort p x).Fits := h.withPort (by rw [hx]; exact h.queues p)

theorem State.Fits.withAgent (h : s.Fits) {a : Agent} (ha : a.input.length ≤ Config.inputLimit) : (s.withAgent a).Fits :=
  ⟨h.queues, ha, h.repeats, h.micro⟩

/-- A change of the agent beside its input queue. -/
theorem State.Fits.alterAgent (h : s.Fits) {a : Agent} (ha : a.input = s.agent.input := by rfl) : (s.withAgent a).Fits :=
  h.withAgent (by rw [ha]; exact h.input)

theorem State.Fits.withAlert (h : s.Fits) {a : AlertUnit} (ha : a.repeatCount ≤ Config.repeatLimit) : (s.withAlert a).Fits :=
  ⟨h.queues, h.input, ha, h.micro⟩

theorem State.Fits.withSeg (h : s.Fits) (sg : Seg) (x : SegState) : (s.withSeg sg x).Fits := h.congr rfl rfl rfl rfl
theorem State.Fits.withPool (h : s.Fits) (m : Pool) : (s.withPool m).Fits := h.congr rfl rfl rfl rfl
theorem State.Fits.withAlertLane (h : s.Fits) (x : Option (List Byte)) : (s.withAlertLane x).Fits := h.congr rfl rfl rfl rfl
theorem State.Fits.withStore (h : s.Fits) (x : Store) : (s.withStore x).Fits := h.congr rfl rfl rfl rfl
theorem State.Fits.withRules (h : s.Fits) (x : List (Option Entry)) : (s.withRules x).Fits := h.congr rfl rfl rfl rfl
theorem State.Fits.withSlot (h : s.Fits) (sg : Seg) (x : Slot) : (s.withSlot sg x).Fits := h.withSeg sg _
theorem State.Fits.countExchange (h : s.Fits) (sg : Seg) (k : ExchangeCounter) : (s.countExchange sg k).Fits := h.withSeg sg _
theorem State.Fits.withRx (h : s.Fits) (p : Port) (x : Receiver) : (s.withRx p x).Fits := h.alterPort
theorem State.Fits.withTx (h : s.Fits) (p : Port) (x : Transmitter) : (s.withTx p x).Fits := h.alterPort
theorem State.Fits.withQueue (h : s.Fits) (p : Port) {q : TxQueue} (hq : q.bounded) : (s.withQueue p q).Fits := h.withPort hq
theorem State.Fits.withLane (h : s.Fits) (p : Port) (x : Option Reply) : (s.withLane p x).Fits := h.alterPort
theorem State.Fits.withGuard (h : s.Fits) (p : Port) (x : Option Nat) : (s.withGuard p x).Fits := h.alterPort
theorem State.Fits.withPendingSettings (h : s.Fits) (p : Port) (x : Option Settings) : (s.withPendingSettings p x).Fits :=
  h.alterPort
theorem State.Fits.withSnapshot (h : s.Fits) (p : Port) (x : Option Snapshot) : (s.withSnapshot p x).Fits :=
  h.alterPort
theorem State.Fits.count (h : s.Fits) (p : Port) (k : PortCounter) : (s.count p k).Fits := h.alterPort

theorem State.Fits.countIf (h : s.Fits) (c : Bool) (p : Port) (k : PortCounter) : (s.countIf c p k).Fits := by
  cases c with
  | false => exact h
  | true => exact h.count p k

theorem State.Fits.foldl {α : Type} {f : State → α → State} (hf : ∀ s a, State.Fits s → (f s a).Fits) (h : s.Fits)
    (l : List α) : (l.foldl f s).Fits := by
  induction l generalizing s with
  | nil => exact h
  | cons a l ih => exact ih (hf s a h)

theorem State.Fits.dropRef (h : s.Fits) (b : Nat) : (s.dropRef b).Fits := h.withPool _

theorem State.Fits.dropRef? (h : s.Fits) (b : Option Nat) : (s.dropRef? b).Fits := by
  cases b with
  | none => exact h
  | some b => exact h.dropRef b

theorem State.Fits.dropRefs (h : s.Fits) (bs : List Nat) : (s.dropRefs bs).Fits := by
  induction bs generalizing s with
  | nil => exact h
  | cons b bs ih => exact ih (h.dropRef b)

/-! ### Alerts and snapshots -/

theorem State.Fits.raiseCause (h : s.Fits) (k : Cause) : (s.raiseCause k).Fits := by
  unfold State.raiseCause
  split
  · exact h.withAlert h.repeats
  · exact h

/-- A new alert has not been repeated yet (R161). -/
theorem State.Fits.formAlert (h : s.Fits) : s.formAlert.Fits := by
  unfold State.formAlert
  split
  · exact (h.withAlert (Nat.zero_le _)).withAlertLane _
  · exact h

theorem State.Fits.placeCurrentAlert (h : s.Fits) : s.placeCurrentAlert.Fits := by
  unfold State.placeCurrentAlert
  split
  · exact h
  · exact h.withAlertLane _

theorem State.Fits.reportManagement (h : s.Fits) (p : Port) : (s.reportManagement p).Fits := by
  cases p with
  | seg sg => exact h
  | trunk =>
    unfold State.reportManagement State.reportTrunkManagement
    dsimp only
    split
    · exact (h.withAlert (Nat.zero_le _)).placeCurrentAlert
    · exact h

theorem State.Fits.acknowledge (h : s.Fits) : s.acknowledge.Fits := (h.withAlert (Nat.zero_le _)).formAlert

theorem State.Fits.offerSnapshot (h : s.Fits) (p : Port) (k : SnapshotKind) (stamp : Stamp) (n : Nat) (bytes : List Byte) :
    (s.offerSnapshot p k stamp n bytes).Fits := by
  unfold State.offerSnapshot
  split
  · exact (h.withSnapshot p _).raiseCause _
  · exact h.withSnapshot p _

/-! ### Offers and notices -/

/-- A queue accepts only below its limit (R73). -/
theorem State.depth_of_accepted {p : Port} (accepted : s.offerAnswer p = .accepted) :
    (s.port p).queue.depth < Config.queueLimit := by
  unfold State.offerAnswer at accepted
  split at accepted
  · nomatch accepted
  · split at accepted
    · nomatch accepted
    · rename_i room
      exact Nat.lt_of_not_le room

/-- A queue that answered ACCEPTED takes the descriptor (R73). -/
theorem State.Fits.enqueue (h : s.Fits) {p : Port} (accepted : s.offerAnswer p = .accepted) (b : Nat) (k : DescriptorKind)
    (pr : Priority) : (s.enqueue p b k pr).Fits :=
  h.withQueue p ((h.queues p).push (State.depth_of_accepted accepted) _)

theorem State.Fits.buildNotice (h : s.Fits) (n : NoticeRequest) : (s.buildNotice n).Fits := by
  unfold State.buildNotice
  split
  · exact h.count _ _
  · dsimp only
    split
    · rename_i accepted
      exact (h.withPool _).enqueue accepted _ _ _
    · exact ((h.withPool _).dropRef _).count _ _
    · exact ((h.withPool _).dropRef _).count _ _

theorem State.Fits.noticeIf (h : s.Fits) (flag : Bool) (n : NoticeRequest) : (s.noticeIf flag n).Fits := by
  cases flag with
  | false => exact h
  | true => exact h.buildNotice n

/-! ### Exchanges -/

theorem State.Fits.failAttempt (h : s.Fits) (sg : Seg) (r : ExchangeRecord) : (s.failAttempt sg r).Fits := by
  unfold State.failAttempt
  split
  · exact (h.countExchange sg _).withSlot sg _
  · exact ((((h.countExchange sg _).dropRef? _).noticeIf _ _).raiseCause _).withSlot sg _

theorem State.Fits.attemptTimedOut (h : s.Fits) (sg : Seg) (r : ExchangeRecord) : (s.attemptTimedOut sg r).Fits :=
  (h.countExchange sg _).failAttempt sg _

theorem State.Fits.attemptBadReply (h : s.Fits) (sg : Seg) (r : ExchangeRecord) : (s.attemptBadReply sg r).Fits :=
  (h.countExchange sg _).failAttempt sg _

theorem State.Fits.offerAnswerFrame (h : s.Fits) (sg : Seg) (r : ExchangeRecord) (b : Nat) :
    (s.offerAnswerFrame sg r b).Fits := by
  unfold State.offerAnswerFrame
  split
  · rename_i accepted
    exact h.enqueue accepted _ _ _
  · exact (h.count _ _).dropRef b
  · exact (h.count _ _).dropRef b

theorem State.Fits.exchangeReplied (h : s.Fits) (sg : Seg) (r : ExchangeRecord) (b : Nat) : (s.exchangeReplied sg r b).Fits :=
  (((h.countExchange sg _).offerAnswerFrame sg r b).dropRef? _).withSlot sg _

theorem State.Fits.reportArrival (h : s.Fits) (p : Port) : (s.reportArrival p).Fits := by
  rw [State.reportArrival_eq]
  exact h.congr rfl rfl rfl rfl

theorem State.Fits.reportDiscardEnd (h : s.Fits) (p : Port) : (s.reportDiscardEnd p).Fits := by
  unfold State.reportDiscardEnd
  split
  · exact h
  · split
    · exact h.attemptBadReply _ _
    · exact h

theorem State.Fits.cancelExchange (h : s.Fits) (sg : Seg) : (s.cancelExchange sg).Fits := by
  unfold State.cancelExchange
  split
  · exact h
  · split
    · exact h.withSlot sg _
    · exact (((h.countExchange sg _).dropRef? _).noticeIf _ _).withSlot sg _

/-! ### Classifier and dispatcher -/

theorem State.Fits.forwardTo (h : s.Fits) (src : Port) (b : Nat) (pr : Priority) (q : Port) : (s.forwardTo src b pr q).Fits := by
  unfold State.forwardTo
  split
  · rename_i accepted
    exact (h.withPool (s.pool.addRef b)).enqueue accepted _ _ _
  · exact h.count _ _
  · exact h.count _ _

theorem State.Fits.dispatchExchange (h : s.Fits) (src : Port) (b i : Nat) (sg : Seg) (pr : Priority) (n : Nat) (flag : Bool) :
    (s.dispatchExchange src b i sg pr n flag).Fits := by
  unfold State.dispatchExchange
  dsimp only
  split
  · split
    · rename_i accepted
      exact h.enqueue accepted _ _ _
    · exact ((h.count _ _).dropRef b).noticeIf _ _
    · exact ((h.count _ _).dropRef b).noticeIf _ _
  · exact ((h.count _ _).dropRef b).noticeIf _ _

theorem State.Fits.dispatch (h : s.Fits) (src : Port) (b i : Nat) (a : Action) : (s.dispatch src b i a).Fits := by
  cases a with
  | drop => exact h.dropRef b
  | forward targets pr => exact (h.foldl (fun _ q k => k.forwardTo src b pr q) _).dropRef b
  | exchange target pr retries notice => exact h.dispatchExchange src b i target pr retries notice

theorem State.Fits.classify (h : s.Fits) (src : Port) (b : Nat) : (s.classify src b).Fits := by
  unfold State.classify
  split
  · exact (h.count _ _).dropRef b
  · exact (h.withRules _).dispatch src b _ _

/-! ### What follows within an event -/

theorem State.Fits.startSending (h : s.Fits) (p : Port) (cur : Current) : (s.startSending p cur).Fits := h.alterPort

theorem State.Fits.reportTake (h : s.Fits) (p : Port) (d : Descriptor) : (s.reportTake p d).Fits := by
  unfold State.reportTake
  split
  · exact h
  · split
    · exact h
    · split
      · exact (h.withSeg _ _).countExchange _ _
      all_goals exact h.withSlot _ _

theorem State.Fits.startRetry (h : s.Fits) (p : Port) (r : ExchangeRecord) : (s.startRetry p r).Fits := by
  unfold State.startRetry
  split
  · exact ((h.withPool _).withSlot _ _).startSending _ _
  · exact h

/-- What the arbiter chooses to take leaves its queue within the bounds (R72, R79). -/
theorem State.Fits.begin (h : s.Fits) {p : Port} {c : Choice} (chosen : s.choice p = some c) : (s.begin p c).Fits := by
  cases c with
  | retry r => exact h.startRetry p r
  | reply => exact h.startSending p _
  | alert => exact h.startSending p _
  | take d rest =>
    exact ((h.withQueue p ((h.queues p).grant (State.choice_take chosen).2)).startSending p _).reportTake p d

theorem State.Fits.startPort (h : s.Fits) (p : Port) : (s.startPort p).Fits := by
  cases chosen : s.choice p with
  | none => rw [State.startPort_none (.inr (.inr chosen))]; exact h
  | some c =>
    have starts : (if s.startCondition p then s.begin p c else s.withTx p { (s.port p).tx with state := .waiting }).Fits := by
      split
      · exact h.begin chosen
      · exact h.withTx p _
    cases tx : (s.port p).tx.state with
    | off => rw [State.startPort_none (.inl tx)]; exact h
    | sending cur since => rw [State.startPort_none (.inr (.inl ⟨cur, since, tx⟩))]; exact h
    | idle => rw [State.startPort_choice (.inl tx) chosen]; exact starts
    | waiting => rw [State.startPort_choice (.inr tx) chosen]; exact starts

theorem State.Fits.slotForRole (h : s.Fits) (p : Port) (r : Role) : (s.slotForRole p r).Fits := by
  cases p with
  | trunk => exact h
  | seg sg => exact h.withSlot sg _

theorem State.Fits.applyPending (h : s.Fits) (p : Port) : (s.applyPending p).Fits := by
  unfold State.applyPending
  split
  · exact h
  · split
    · exact h.alterPort.slotForRole p _
    · exact h

theorem State.Fits.followUp (h : s.Fits) : s.followUp.Fits :=
  (h.foldl (fun _ p k => k.startPort p) _).foldl (fun _ p k => k.applyPending p) _

theorem State.Fits.finish (h : s.Fits) : s.finish.Fits := h.formAlert.followUp

/-! ### Resets -/

theorem State.Fits.abortSending (h : s.Fits) (p : Port) : (s.abortSending p).Fits := by
  unfold State.abortSending
  split
  · exact ((h.withTx p _).count p _).dropRef? _
  all_goals exact h.withTx p _

/-- A reset of a cold kind sets everything bounded afresh (R20). -/
theorem State.coldWipe_fits (s : State) (k : ResetCause) : (s.coldWipe k).Fits where
  queues p := by
    obtain ⟨r, hr⟩ := stoppedPorts_get p
    have stopped : (s.coldWipe k).port p = PortState.stopped r := hr
    rw [stopped]
    exact TxQueue.empty_bounded
  input := Nat.zero_le _
  repeats := Nat.zero_le _
  micro := Nat.succ_pos _

theorem State.Fits.warmPort (h : s.Fits) (p : Port) : (s.warmPort p).Fits :=
  (h.abortSending p).withPort TxQueue.empty_bounded

theorem State.Fits.warmSlot (h : s.Fits) (sg : Seg) : (s.warmSlot sg).Fits := by
  unfold State.warmSlot
  dsimp only
  split
  · exact (h.countExchange sg _).withSlot sg _
  · exact h.withSlot sg _

theorem State.Fits.beginStartup (h : s.Fits) : s.beginStartup.Fits := h.withStore _

theorem State.Fits.warmReset (h : s.Fits) : s.warmReset.Fits := by
  have emptied : (Seg.list.foldl State.warmSlot (Port.list.foldl State.warmPort s)).Fits :=
    (h.foldl (fun _ p k => k.warmPort p) _).foldl (fun _ sg k => k.warmSlot sg) _
  exact State.Fits.beginStartup ⟨emptied.queues, Nat.zero_le _, Nat.zero_le _, emptied.micro⟩

theorem State.Fits.restart (h : s.Fits) (f : RestartForm) : (s.restart f).Fits := by
  cases f with
  | cold => exact (s.coldWipe_fits _).beginStartup
  | warm => exact h.warmReset

theorem State.Fits.leaveReset (h : s.Fits) : s.leaveReset.Fits := by
  unfold State.leaveReset
  split
  · exact h
  · exact h.beginStartup

theorem State.wiped_fits (s : State) (k : ResetCause) (supply : Supply) (pinHeld : Bool) : (s.wiped k supply pinHeld).Fits :=
  (s.coldWipe_fits k).congr rfl rfl rfl rfl

/-! ### Replies -/

theorem State.Fits.settleAddress (h : s.Fits) (id : Nat) : (s.settleAddress id).Fits := by
  unfold State.settleAddress
  split
  · exact h
  · split
    · exact h.alterAgent
    · exact h

theorem State.Fits.settleReply (h : s.Fits) (r : Reply) : (s.settleReply r).Fits := by
  unfold State.settleReply
  split
  · exact h.settleAddress _
  · exact (h.settleAddress _).restart _

theorem State.Fits.offerReply (h : s.Fits) (p : Port) (r : Reply) : (s.offerReply p r).Fits := by
  unfold State.offerReply
  split
  · exact h.settleReply r
  · split
    · exact h.withLane p _
    · exact h.alterAgent

theorem State.Fits.numberReply (h : s.Fits) : s.numberReply.Fits := h.alterAgent

theorem State.Fits.answer (h : s.Fits) (rq : Request) (o : CommandOutcome) (body : List Byte) (f : Option RestartForm) :
    (s.answer rq o body f).Fits := h.numberReply.offerReply _ _

theorem State.Fits.answerPlain (h : s.Fits) (rq : Request) (o : CommandOutcome) : (s.answerPlain rq o).Fits :=
  h.answer rq o _ _

theorem State.Fits.laneFree (h : s.Fits) (p : Port) : (s.laneFree p).Fits := by
  unfold State.laneFree
  split
  · exact h.alterAgent.withLane p _
  · split
    · exact h
    · split
      · exact h.alterAgent.withLane p _
      · exact h

theorem State.Fits.formDeferred (h : s.Fits) (rq : Request) : (s.formDeferred rq).Fits := h.alterAgent

theorem State.Fits.offerDeferred (h : s.Fits) (o : CommandOutcome) : (s.offerDeferred o).Fits := by
  have numbered (d : Option Deferred) : (s.numberReply.withAgent { s.numberReply.agent with deferred := d }).Fits :=
    h.numberReply.alterAgent
  unfold State.offerDeferred
  split
  · exact h
  · dsimp only
    split
    · exact (numbered none).settleReply _
    · split
      · exact (numbered none).withLane _ _
      · exact numbered _

theorem State.Fits.loseDeferred (h : s.Fits) (p : Port) : (s.loseDeferred p).Fits := by
  unfold State.loseDeferred
  split
  · exact h
  · split
    · exact h
    · split
      · exact h.alterAgent.settleAddress _
      · exact h

/-! ### The lines -/

/-- A frame joins the input queue below 4 entries only (R120). -/
theorem State.Fits.joinInput (h : s.Fits) (p : Port) (b : Nat) : (s.joinInput p b).Fits := by
  unfold State.joinInput
  split
  · rename_i room
    refine h.withAgent ?_
    rw [List.length_append, List.length_singleton]
    exact room
  · exact (h.count p _).dropRef b

theorem State.Fits.routeOrdinary (h : s.Fits) (p : Port) (b : Nat) : (s.routeOrdinary p b).Fits := by
  unfold State.routeOrdinary
  split
  · exact (h.reportManagement p).joinInput p b
  · exact h.classify p b

theorem State.Fits.judgeAnswer (h : s.Fits) (sg : Seg) (r : ExchangeRecord) (b : Nat) : (s.judgeAnswer sg r b).Fits := by
  unfold State.judgeAnswer
  split
  · exact h.exchangeReplied sg r b
  · exact (h.dropRef b).attemptBadReply sg r

theorem State.Fits.judgeLate (h : s.Fits) (sg : Seg) (r : ExchangeRecord) (b : Nat) : (s.judgeLate sg r b).Fits := by
  unfold State.judgeLate
  split
  · exact (h.countExchange sg _).dropRef b
  · exact h.classify _ b

theorem State.Fits.routeClean (h : s.Fits) (p : Port) (b : Nat) : (s.routeClean p b).Fits := by
  unfold State.routeClean
  split
  · exact h.routeOrdinary _ b
  · split
    · exact h.judgeAnswer _ _ b
    · exact h.judgeLate _ _ b
    · exact h.routeOrdinary _ b

theorem State.Fits.dropOrFailAttempt (h : s.Fits) (p : Port) (b : Nat) : (s.dropOrFailAttempt p b).Fits := by
  unfold State.dropOrFailAttempt
  split
  · exact h.dropRef b
  · split
    · exact (h.dropRef b).attemptBadReply _ _
    · exact h.dropRef b

theorem State.Fits.countErrors (h : s.Fits) (p : Port) (e : ErrorSet) : (s.countErrors p e).Fits :=
  ((((h.countIf _ p _).countIf _ p _).countIf _ p _).countIf _ p _).countIf _ p _

theorem State.Fits.complete (h : s.Fits) (p : Port) (f : Assembly) : (s.complete p f).Fits := by
  have counted := (h.withPool (s.pool.setLength f.buffer f.length)).count p .rxframes
  unfold State.complete
  dsimp only
  split
  · exact counted.routeClean p _
  · exact ((counted.countErrors p _).offerSnapshot p _ _ _ _).dropOrFailAttempt p _

theorem State.Fits.arrive (h : s.Fits) (p : Port) : (s.arrive p).Fits := by
  unfold State.arrive
  dsimp only
  split
  · exact h
  · split
    · exact h
    · exact h
    · unfold State.arriveIdle
      dsimp only
      split
      · exact ((h.withPool _).withRx p _).reportArrival p
      · exact (((((h.withRx p _).count p _).offerSnapshot p _ _ _ _).raiseCause _).reportArrival p).finish
    · exact h.withRx p _
    · exact h.withRx p _

theorem State.Fits.guardFromCharacter (h : s.Fits) (p : Port) (n : Nat) : (s.guardFromCharacter p n).Fits := by
  cases p with
  | trunk => exact h
  | seg sg => exact h.withGuard _ _

theorem State.Fits.takeCharacter (h : s.Fits) (p : Port) (data : Byte) (parity framing : Bool) (n : Nat) :
    (s.takeCharacter p data parity framing n).Fits := by
  unfold State.takeCharacter
  split
  · exact h
  · exact h
  · exact h
  · refine State.Fits.guardFromCharacter ?_ p n
    unfold State.assemble
    split
    · exact (h.withPool _).withRx p _
    · exact h.withRx p _
  all_goals exact (h.withRx p _).guardFromCharacter p n

theorem State.Fits.receive (h : s.Fits) (p : Port) (data : Byte) (parityBit stopBit : Bool) :
    (s.receive p data parityBit stopBit).Fits := by
  unfold State.receive
  dsimp only
  split
  · exact h
  · split
    · exact h.withRx p _
    · exact h.takeCharacter p _ _ _ _

theorem State.Fits.releaseHeld (h : s.Fits) (p : Port) : (s.releaseHeld p).Fits := by
  unfold State.releaseHeld
  split
  · exact h
  · exact h.takeCharacter p _ _ _ _

theorem State.Fits.storeBreakByte (h : s.Fits) (f : Assembly) : (s.storeBreakByte f).Fits := by
  unfold State.storeBreakByte
  split
  · exact h.withPool _
  · exact h

theorem State.Fits.declareBreak (h : s.Fits) (p : Port) : (s.declareBreak p).Fits := by
  unfold State.declareBreak
  split
  · exact h
  · split
    · exact h
    · exact h
    · exact h
    · exact (((h.storeBreakByte _).withRx p _).complete p _).finish
    · exact ((h.withRx p _).complete p _).finish
    · exact h.withRx p _
    · exact h.withRx p _

theorem State.Fits.lineHigh (h : s.Fits) (p : Port) : (s.lineHigh p).Fits := by
  unfold State.lineHigh
  split
  · exact h.withRx p _
  · exact h

theorem State.Fits.gapExpires (h : s.Fits) (p : Port) : (s.gapExpires p).Fits := by
  unfold State.gapExpires
  split
  · split
    · exact h
    · exact h
    · exact h
    · exact ((h.withRx p _).complete p _).finish
    · exact ((h.withRx p _).complete p _).finish
    · exact ((h.withRx p _).reportDiscardEnd p).finish
    · exact (h.withRx p _).finish
  · exact h

/-! ### Guard, send end and timers -/

theorem State.Fits.guardExpires (h : s.Fits) (sg : Seg) (edgeInside : Bool) : (s.guardExpires sg edgeInside).Fits := by
  unfold State.guardExpires
  split
  · exact h
  · exact h
  all_goals
    split
    · exact h.withGuard _ _
    · exact h.alterPort.followUp

theorem State.Fits.slotSettles (h : s.Fits) (p : Port) : (s.slotSettles p).Fits := by
  unfold State.slotSettles
  split
  · exact h
  · split
    · exact h.withSlot _ _
    · exact h

theorem State.Fits.finishReply (h : s.Fits) (p : Port) : (s.finishReply p).Fits := by
  unfold State.finishReply
  split
  · exact h
  · split
    · exact (h.withLane p _).restart _
    · exact ((h.withLane p _).settleAddress _).laneFree p

theorem State.Fits.finishAlert (h : s.Fits) : s.finishAlert.Fits := by
  unfold State.finishAlert
  split
  · exact (h.withAlertLane _).withAlert h.repeats
  · exact (h.withAlertLane _).formAlert
  · exact h.withAlertLane _

theorem State.Fits.finishCurrent (h : s.Fits) (p : Port) (cur : Current) : (s.finishCurrent p cur).Fits := by
  cases cur with
  | descriptor d =>
    unfold State.finishCurrent State.finishDescriptor
    dsimp only
    split
    · split
      · exact h.withSlot _ _
      · exact h.dropRef _
    all_goals exact (h.dropRef _).slotSettles p
  | retry b =>
    unfold State.finishCurrent State.finishRetry
    dsimp only
    split
    · exact (h.dropRef b).withSlot _ _
    · exact h.dropRef b
  | reply => exact h.finishReply p
  | alert => exact h.finishAlert

theorem PortState.afterSend_queue (x : PortState) (p : Port) (n : Nat) : (x.afterSend p n).queue = x.queue := by
  cases p with
  | trunk => rfl
  | seg sg =>
    unfold PortState.afterSend
    dsimp only
    split <;> rfl

theorem State.Fits.sendEnds (h : s.Fits) (p : Port) : (s.sendEnds p).Fits := by
  have sent : (s.withPort p ((s.port p).afterSend p s.now)).Fits :=
    h.withPort (by rw [PortState.afterSend_queue]; exact h.queues p)
  unfold State.sendEnds
  split
  · exact h
  · exact h
  · exact h
  · exact ((sent.count p _).finishCurrent p _).followUp

theorem State.Fits.responseExpires (h : s.Fits) (sg : Seg) : (s.responseExpires sg).Fits := by
  unfold State.responseExpires
  split
  · exact (h.attemptTimedOut sg _).finish
  · exact h

theorem State.Fits.lapseExpires (h : s.Fits) (sg : Seg) : (s.lapseExpires sg).Fits := by
  unfold State.lapseExpires
  split
  · exact (h.withSlot sg _).followUp
  · exact h

theorem State.Fits.settleExpires (h : s.Fits) (sg : Seg) : (s.settleExpires sg).Fits := by
  unfold State.settleExpires
  split
  · exact (h.withSlot sg _).followUp
  · exact h

/-- Below three repeats one more is counted, and at three none (R164). -/
theorem State.Fits.repeatExpires (h : s.Fits) : s.repeatExpires.Fits := by
  unfold State.repeatExpires
  split
  · split
    · rename_i below
      have counted : (s.withAlert { s.alert with repeatCount := s.alert.repeatCount + 1, repeatDue := none }).Fits :=
        h.withAlert below
      exact counted.placeCurrentAlert.followUp
    · exact h.withAlert h.repeats
  · exact h

/-! ### The store's completions -/

theorem State.Fits.commitCompletes (h : s.Fits) (wrong : List (Nat × Byte)) : (s.commitCompletes wrong).Fits := by
  unfold State.commitCompletes
  split
  · split
    · exact ((h.withStore _).offerDeferred _).followUp
    · exact (((h.withStore _).offerDeferred _).raiseCause _).finish
  all_goals exact h

theorem State.Fits.placeRecords (h : s.Fits) (ports : PerPort PortRecord) : (s.placeRecords ports).Fits :=
  h.foldl (fun _ p k => k.withPendingSettings p _) _

theorem State.Fits.loadCompletes (h : s.Fits) : s.loadCompletes.Fits := by
  have awaiting (x : Store) (a : AgentSettings) : ((s.withStore x).awaitSettings a).Fits := (h.withStore x).alterAgent
  unfold State.loadCompletes
  split
  · exact ((((awaiting _ _).offerDeferred _).withRules _).placeRecords _).followUp
  all_goals exact h

theorem State.Fits.bringUp (h : s.Fits) (p : Port) (r : PortRecord) : (s.bringUp p r).Fits :=
  h.alterPort.slotForRole p _

/-- The start-up load touches no queue (R185). -/
theorem State.Fits.applyStartup (h : s.Fits) (pr : Profile) : (s.applyStartup pr).Fits := by
  unfold State.applyStartup
  dsimp only
  refine State.Fits.withStore (State.Fits.foldl (fun _ p k => k.bringUp p _) ?_ _) _
  exact (((h.withRules _).alterAgent).raiseCause _).formAlert

theorem State.Fits.startupCompletes (h : s.Fits) : s.startupCompletes.Fits := by
  unfold State.startupCompletes
  split
  · exact (h.applyStartup _).followUp
  all_goals exact h

/-! ### Management -/

theorem State.Fits.enablePort (h : s.Fits) (p : Port) : (s.enablePort p).Fits := by
  unfold State.enablePort
  dsimp only
  split
  · exact h
  · exact h.alterPort.slotForRole p _

theorem State.Fits.flushQueue (h : s.Fits) (p : Port) : (s.flushQueue p).Fits :=
  ((h.dropRefs _).withQueue p TxQueue.empty_bounded).withLane p _

theorem State.Fits.settleLost (h : s.Fits) (r : Option Reply) : (s.settleLost r).Fits := by
  cases r with
  | none => exact h
  | some r => exact h.settleAddress r.id

theorem State.Fits.receiverOff (h : s.Fits) (p : Port) : (s.receiverOff p).Fits := h.alterPort.dropRef? _

theorem State.Fits.disableSegment (h : s.Fits) (sg : Seg) : (s.disableSegment sg).Fits := by
  unfold State.disableSegment
  split
  · exact (((((h.receiverOff _).abortSending _).flushQueue _).settleLost _).loseDeferred _).cancelExchange sg
  · exact h

theorem State.Fits.restartIf (h : s.Fits) (f : Option RestartForm) : (s.restartIf f).Fits := by
  cases f with
  | none => exact h
  | some f => exact h.restart f

theorem State.Fits.clearWatermark (h : s.Fits) : s.clearWatermark.Fits := h.withPool _

theorem State.Fits.zeroPort (h : s.Fits) (p : Port) : (s.zeroPort p).Fits := by
  cases p with
  | trunk => exact h.alterPort
  | seg sg => exact h.alterPort.withSeg sg _

theorem State.Fits.checked {α : Type} (h : s.Fits) {rq : Request} {k : Permit} {read : List Byte → Option α} {act : α → State}
    (ha : ∀ x, (act x).Fits) : (s.checked rq k read act).Fits := by
  unfold State.checked
  split
  · split
    · exact h.answerPlain rq _
    · exact ha _
  · exact h.answerPlain rq _

/-- A command that only reads answers and does nothing else. -/
theorem State.Fits.reading {α : Type} (h : s.Fits) {rq : Request} {k : Permit} {read : List Byte → Option α}
    {body : α → List Byte} {f : Option RestartForm} : (s.checked rq k read fun x => s.answer rq .done (body x) f).Fits :=
  h.checked fun _ => h.answer rq _ _ _

/-- The taking of a command shortens the input queue (R121). -/
theorem State.Fits.afterTake (h : s.Fits) (e : InputEntry) : (s.afterTake e).Fits :=
  (h.withAgent (Nat.le_trans (by simp) h.input)).dropRef _

theorem State.Fits.takeCommand (h : s.Fits) (i : Instr) {f : Request → State → State}
    (hf : ∀ rq t, State.Fits t → (f rq t).Fits) : (s.takeCommand i f).Fits := by
  unfold State.takeCommand
  split
  · split
    · exact h
    · split
      · exact ((h.afterTake _).count _ _).followUp
      · exact (hf _ _ (h.afterTake _)).followUp
  · exact h

theorem State.Fits.whenClocked (h : s.Fits) {f : State → State} (hf : (f s).Fits) : (s.whenClocked f).Fits := by
  unfold State.whenClocked
  split
  · exact hf
  · exact h

section
variable (rq : Request) (h : s.Fits)
include h

theorem doSetPort_fits : (doSetPort rq s).Fits := h.checked fun _ => (h.answerPlain rq _).withPendingSettings _ _

theorem doDisablePort_fits : (doDisablePort rq s).Fits :=
  h.checked fun sg => ((h.disableSegment sg).answerPlain rq _).restartIf _

theorem doReadRule_fits : (doReadRule rq s).Fits := by
  refine h.checked fun i => ?_
  split
  · exact h.answerPlain rq _
  · exact h.answer rq _ _ _

theorem doDeleteRule_fits : (doDeleteRule rq s).Fits := by
  refine h.checked fun i => ?_
  split
  · exact h.answerPlain rq _
  · exact (h.withRules _).answerPlain rq _

theorem doClearAll_fits : (doClearAll rq s).Fits :=
  h.checked fun _ => (h.foldl (fun _ p k => k.zeroPort p) _).clearWatermark.answerPlain rq _

theorem doTakeSnapshot_fits : (doTakeSnapshot rq s).Fits := by
  refine h.checked fun p => ?_
  split
  · exact h.answerPlain rq _
  · exact (h.withSnapshot p _).answer rq _ _ _

theorem doAckAlert_fits : (doAckAlert rq s).Fits := by
  refine h.checked fun q => ?_
  split
  · exact h.answerPlain rq _
  · split
    · exact h.acknowledge.answerPlain rq _
    · exact h.answerPlain rq _

theorem doSetAgent_fits : (doSetAgent rq s).Fits := h.checked fun _ => h.alterAgent.answerPlain rq _

theorem doLoad_fits : (doLoad rq s).Fits := by
  refine h.checked fun _ => ?_
  split
  · exact h.answerPlain rq _
  · exact (h.formDeferred rq).withStore _

end

/-! ### Every command and every step -/

/-- The resets from outside, the supply and the clock keep the bounds. -/
theorem exec_fits_outside {c : Instr} (outside : isOutside c = true) (h : s.Fits) (hc : exec c s = .next t) : t.Fits := by
  cases c <;> simp only [isOutside, Bool.false_eq_true] at outside
  all_goals injection hc with hc; subst hc
  case powerReset => exact s.wiped_fits _ _ _
  case supplyReset =>
    unfold State.supplyFalls
    split
    · exact s.wiped_fits _ _ _
    · exact s.wiped_fits _ _ _
    · exact h
    · exact h
  case supplyRelease =>
    have released : ({ s with supply := .ok } : State).Fits := h.congr rfl rfl rfl rfl
    unfold State.supplyReleases
    split
    · exact released.leaveReset
    · exact released.leaveReset
    · exact h
    · exact h
  case pinReset =>
    unfold State.pinFalls
    split
    · exact s.wiped_fits _ _ _
    · exact s.wiped_fits _ _ _
    · exact s.wiped_fits _ _ _
    · exact h
  case pinResetEnd =>
    have released : ({ s with pinHeld := false } : State).Fits := h.congr rfl rfl rfl rfl
    unfold State.pinRises
    split
    · exact released.leaveReset
    · exact h
  case vddFallsBelow1V2 => exact (s.coldWipe_fits .power).congr rfl rfl rfl rfl
  case clkinStops => exact h.congr rfl rfl rfl rfl
  case clkinReturns => exact h.congr rfl rfl rfl rfl

/-- Every command keeps the bounds. -/
theorem exec_fits {c : Instr} (h : s.Fits) (hc : exec c s = .next t) : t.Fits := by
  cases outside : isOutside c with
  | true => exact exec_fits_outside outside h hc
  | false =>
    cases c <;> simp only [isOutside, Bool.true_eq_false] at outside
    case commitCompletion w =>
      simp only [exec, execCommitCompletion] at hc
      split at hc
      · injection hc with hc; subst hc; exact h.whenClocked (h.commitCompletes w)
      · nomatch hc
    all_goals injection hc with hc; subst hc
    case characterArrival p => exact h.whenClocked (h.arrive p)
    case characterReceived p d a b => exact h.whenClocked (h.receive p d a b)
    case heldCharacterReleased p => exact h.whenClocked (h.releaseHeld p)
    case breakDeclared p => exact h.whenClocked (h.declareBreak p)
    case gapTimerExpiry p => exact h.whenClocked (h.gapExpires p)
    case turnaroundGuardExpiry sg e => exact h.whenClocked (h.guardExpires sg e)
    case sendEnd p => exact h.whenClocked (h.sendEnds p)
    case responseTimerExpiry sg => exact h.whenClocked (h.responseExpires sg)
    case lapseTimerExpiry sg => exact h.whenClocked (h.lapseExpires sg)
    case settleTimerExpiry sg => exact h.whenClocked (h.settleExpires sg)
    case repeatTimerExpiry => exact h.whenClocked h.repeatExpires
    case loadCompletion => exact h.whenClocked h.loadCompletes
    case startupLoadCompletion => exact h.whenClocked h.startupCompletes
    case lineReturnsHighAfterBreak p => exact h.whenClocked (h.lineHigh p)
    case unknownCommand => exact h.takeCommand _ fun rq _ ht => ht.answerPlain rq _
    case setPort => exact h.takeCommand _ fun rq _ => doSetPort_fits rq
    case enablePort => exact h.takeCommand _ fun rq _ ht => ht.checked fun p => (ht.enablePort p).answerPlain rq _
    case disablePort => exact h.takeCommand _ fun rq _ => doDisablePort_fits rq
    case readRule => exact h.takeCommand _ fun rq _ => doReadRule_fits rq
    case writeRule => exact h.takeCommand _ fun rq _ ht => ht.checked fun _ => (ht.withRules _).answerPlain rq _
    case deleteRule => exact h.takeCommand _ fun rq _ => doDeleteRule_fits rq
    case clearCountersPort =>
      exact h.takeCommand _ fun rq _ ht => ht.checked fun p => (ht.zeroPort p).clearWatermark.answerPlain rq _
    case clearCountersAll => exact h.takeCommand _ fun rq _ => doClearAll_fits rq
    case clearCountersHits =>
      exact h.takeCommand _ fun rq _ ht => ht.checked fun _ => (ht.withRules _).clearWatermark.answerPlain rq _
    case takeSnapshot => exact h.takeCommand _ fun rq _ => doTakeSnapshot_fits rq
    case ackAlert => exact h.takeCommand _ fun rq _ => doAckAlert_fits rq
    case setAgent => exact h.takeCommand _ fun rq _ => doSetAgent_fits rq
    case commit => exact h.takeCommand _ fun rq _ ht => ht.checked fun _ => (ht.formDeferred rq).withStore _
    case load => exact h.takeCommand _ fun rq _ => doLoad_fits rq
    all_goals exact h.takeCommand _ fun _ _ ht => ht.reading

/-- The fine count starts over at a full microsecond (R22, log 2). -/
theorem State.Fits.tick (h : s.Fits) : s.tick.Fits := by
  have micro (n m : Nat) (b : Stamp) (hm : m < Config.finePerMicro) :
      ({ s with now := n, subMicro := m, timeBase := b } : State).Fits := ⟨h.queues, h.input, h.repeats, hm⟩
  unfold State.tick State.countTime
  split
  · split
    · exact micro _ _ _ h.micro
    · split
      · rename_i below
        exact micro _ _ _ below
      · exact micro _ _ _ (Nat.succ_pos _)
  · exact h

theorem step_fits (h : s.Fits) (hs : step s = .next t) : t.Fits := by
  obtain ⟨c, l, n, hc⟩ | rfl := step_next hs
  · exact exec_fits (s := { s with pending := l, freeCount := n }) (h.congr rfl rfl rfl rfl) hc
  · exact h.tick

/-! ### The rule table -/

/-- No move of the configuration changes the number of entries (R43). -/
theorem Setup.Move.ruleEntries {v w : Setup} (m : Setup.Move v w) (h : v.rules.length = Config.ruleEntries) :
    w.rules.length = Config.ruleEntries := by
  cases m with
  | entry i e he => rw [List.length_set]; exact h
  | table rs hrs => exact hrs.1
  | wipe => exact List.length_replicate
  | adopt p st hst => rw [Setup.place_rules]; exact h
  | install p st hst => rw [Setup.place_rules]; exact h
  | follow p => cases p <;> exact h
  | offer => exact h
  | retract => exact h
  | trunkUp => exact h
  | agent => exact h
  | setAgent => exact h
  | await => exact h
  | settle => exact h
  | forget => exact h
  | capture => exact h
  | release => exact h

theorem step_ruleEntries (h : s.rules.length = Config.ruleEntries) (hs : step s = .next t) :
    t.rules.length = Config.ruleEntries := by
  have written (u : State) : u.setup.rules.length = u.rules.length := List.length_map _
  rw [← written] at h ⊢
  exact step_keeps (law := fun v => v.rules.length = Config.ruleEntries) (fun _ _ => Setup.Move.ruleEntries) h hs

end

/-- Settles O55: what queues, counters and the input queue take is tested before they take it; the table's length is a law of the
configuration. -/
theorem stepKeepsTheBounds : Obligations.StepKeepsTheBounds := by
  intro s t h hs
  rw [State.bounded_iff] at h ⊢
  obtain ⟨fits, rules⟩ := h
  exact ⟨step_fits fits hs, step_ruleEntries rules hs⟩

end Sys2Proof.Machine
end

section
/-! SUPPORT. The classifier: the first match is the valid entry of lowest index that the frame matches (R45 to R47), and what becomes
of a clean frame that matches no entry or a DROP entry (R28, R30, R48, R49, R65). -/

namespace Sys2Proof.Machine

/-! ### Matching -/

theorem ByteTest.holds_iff {t : ByteTest} {frame : List Byte} :
    t.holds frame = true ↔ ∃ b, frame[t.offset]? = some b ∧ b &&& t.mask = t.value &&& t.mask := by
  unfold ByteTest.holds
  split
  · rename_i short
    simp [short]
  · rename_i b here
    simp [here]

theorem Rule.matchesFrame_iff {r : Rule} {src : Port} {frame : List Byte} :
    r.matchesFrame src frame = true ↔
      r.sources.get src = true ∧ r.minLength ≤ frame.length ∧ frame.length ≤ r.maxLength ∧
        ∀ t ∈ r.tests, ∃ b, frame[t.offset]? = some b ∧ b &&& t.mask = t.value &&& t.mask := by
  simp only [Rule.matchesFrame, Bool.and_eq_true, decide_eq_true_eq, List.all_eq_true, ByteTest.holds_iff, and_assoc]

section
variable {src : Port} {frame : List Byte} {rest : List (Option Entry)}

/-- Counting from one index further on only moves the index found. -/
theorem firstMatch_succ (table : List (Option Entry)) (src : Port) (frame : List Byte) (n : Nat) :
    firstMatch table src frame (n + 1) = (firstMatch table src frame n).map fun x => (x.1 + 1, x.2) := by
  induction table generalizing n with
  | nil => rfl
  | cons d rest ih =>
    cases d with
    | none => exact ih (n + 1)
    | some e =>
      unfold firstMatch
      split
      · rfl
      · exact ih (n + 1)

/-- The entry `d` is invalid, or the frame does not match it. -/
def passesOver (src : Port) (frame : List Byte) (d : Option Entry) : Prop :=
  ∀ e, d = some e → e.rule.matchesFrame src frame = false

/-- An entry at the head that the frame matches is the first match (R47). -/
theorem firstMatch_head {e : Entry} (h : e.rule.matchesFrame src frame = true) :
    firstMatch (some e :: rest) src frame 0 = some (0, e) := if_pos h

/-- An entry at the head that is invalid or not matched is passed over (R47). -/
theorem firstMatch_tail {d : Option Entry} (h : passesOver src frame d) :
    firstMatch (d :: rest) src frame 0 = (firstMatch rest src frame 0).map fun x => (x.1 + 1, x.2) := by
  rw [← firstMatch_succ]
  cases d with
  | none => rfl
  | some e => simp [firstMatch, h e rfl]

theorem passesOver_or_matches (src : Port) (frame : List Byte) (d : Option Entry) :
    passesOver src frame d ∨ ∃ e, d = some e ∧ e.rule.matchesFrame src frame = true := by
  cases d with
  | none => exact .inl fun _ absent => nomatch absent
  | some e =>
    cases h : e.rule.matchesFrame src frame with
    | true => exact .inr ⟨e, rfl, h⟩
    | false => exact .inl fun _ he => Option.some.inj he ▸ h

/-- The first match is the valid entry of lowest index that the frame matches (R47). -/
theorem firstMatch_eq_some_iff {table : List (Option Entry)} {i : Nat} {e : Entry} :
    firstMatch table src frame 0 = some (i, e) ↔
      table[i]? = some (some e) ∧ e.rule.matchesFrame src frame = true ∧
        ∀ j < i, ∀ e', table[j]? = some (some e') → e'.rule.matchesFrame src frame = false := by
  induction table generalizing i with
  | nil => simp [firstMatch]
  | cons d rest ih =>
    rcases passesOver_or_matches src frame d with passed | ⟨x, rfl, hx⟩
    · rw [firstMatch_tail passed]
      cases i with
      | zero =>
        simp only [List.getElem?_cons_zero, Option.some.injEq]
        refine ⟨fun h => ?_, fun ⟨hd, hm, _⟩ => absurd (passed e hd) (by simp [hm])⟩
        obtain ⟨y, _, hy⟩ := Option.map_eq_some_iff.mp h
        simp at hy
      | succ i =>
        have shifted : (firstMatch rest src frame 0).map (fun x => (x.1 + 1, x.2)) = some (i + 1, e) ↔
            firstMatch rest src frame 0 = some (i, e) := by
          simp [Option.map_eq_some_iff, Prod.ext_iff]
        rw [shifted, ih, List.getElem?_cons_succ]
        refine and_congr_right fun _ => and_congr_right fun _ => ⟨fun h j hj e' he' => ?_, fun h j hj e' he' => ?_⟩
        · cases j with
          | zero => exact passed e' (by simpa using he')
          | succ j => exact h j (by omega) e' (by simpa using he')
        · exact h (j + 1) (by omega) e' (by simpa using he')
    · rw [firstMatch_head hx]
      cases i with
      | zero =>
        simp only [List.getElem?_cons_zero, Option.some.injEq, Prod.mk.injEq, true_and]
        exact ⟨fun h => ⟨h, h ▸ hx, nofun⟩, fun h => h.1⟩
      | succ i =>
        refine ⟨fun h => by simp at h, fun ⟨_, _, h⟩ => ?_⟩
        exact absurd (h 0 (Nat.succ_pos i) x rfl) (by simp [hx])

theorem firstMatch_eq_none_iff {table : List (Option Entry)} :
    firstMatch table src frame 0 = none ↔ ∀ e, some e ∈ table → e.rule.matchesFrame src frame = false := by
  induction table with
  | nil => simp [firstMatch]
  | cons d rest ih =>
    rcases passesOver_or_matches src frame d with passed | ⟨x, rfl, hx⟩
    · rw [firstMatch_tail passed, Option.map_eq_none_iff, ih]
      refine ⟨fun h e he => ?_, fun h e he => h e (List.mem_cons_of_mem _ he)⟩
      rcases List.mem_cons.mp he with he | he
      · exact passed e he.symm
      · exact h e he
    · rw [firstMatch_head hx]
      exact ⟨nofun, fun h => absurd (h x List.mem_cons_self) (by simp [hx])⟩

end

/-- Settles O17, by induction on the table. -/
theorem firstMatchIsTheLowestIndex : Obligations.FirstMatchIsTheLowestIndex := by
  intro table src frame
  exact ⟨fun _ => Rule.matchesFrame_iff, fun _ _ => firstMatch_eq_some_iff, firstMatch_eq_none_iff⟩

/-! ### A clean frame that the classifier gets -/

section
variable {s : State} {p : Port} {f : Assembly}

/-- A clean frame completes without an error (R28, R29). -/
theorem State.Clean.errorsOf_eq (h : s.Clean p f) : s.errorsOf p f = ErrorSet.empty := by
  obtain ⟨errors, check⟩ := h
  have passed : ¬ ((s.port p).settings.checkMode = .check16 ∧ f.errors.brk = false ∧ f.errors.overlength = false ∧
      passesCheck (s.assembled f) = false) := by
    rintro ⟨mode, _, _, fails⟩
    rcases check with off | passes
    · rw [off] at mode
      nomatch mode
    · rw [passes] at fails
      nomatch fails
  rw [State.errorsOf, if_neg passed, errors]

theorem State.completed_eq (s : State) (p : Port) (f : Assembly) :
    ((s.withRx p (Receiver.fresh .idle)).withPool (s.pool.setLength f.buffer f.length)).count p .rxframes = s.completed p f := by
  simp [State.count, State.withRx, State.withPort, State.withPool, State.port, State.completed]

theorem State.completed_settings (s : State) (p : Port) (f : Assembly) :
    ((s.completed p f).port p).settings = (s.port p).settings := by
  simp [State.completed, State.port]

/-- The buffer of a completed frame holds the bytes that were assembled (R28). -/
theorem State.Completing.completed_frame (h : s.Completing p f) : (s.completed p f).pool.frame f.buffer = s.assembled f :=
  Pool.frame_setLength (by simpa [h.lens] using h.buffer)

/-- A clean frame that completes goes to its consumer (R28, R30). -/
theorem State.complete_clean (h : s.Completing p f) (clean : s.Clean p f) :
    (s.withRx p (Receiver.fresh .idle)).complete p f = (s.completed p f).routeClean p f.buffer := by
  have judged : (s.completed p f).completionErrors p f.errors (s.assembled f) = ErrorSet.empty := by
    rw [← clean.errorsOf_eq, State.completionErrors, State.completed_settings]
    rfl
  unfold State.complete
  dsimp only
  rw [State.withRx_pool, State.completed_eq, h.completed_frame, judged]
  rfl

/-- Whether a frame is a management frame is not changed by its completion (R119). -/
theorem State.completed_isManagement (s : State) (p : Port) (f : Assembly) (frame : List Byte) :
    (s.completed p f).isManagement p frame = s.isManagement p frame := by
  have effective : (s.completed p f).managementEffective p = s.managementEffective p := by
    cases p with
    | trunk => rfl
    | seg sg =>
      unfold State.managementEffective
      dsimp only
      rw [State.completed_settings]
  rw [State.isManagement, effective]
  rfl

/-- A frame that no other consumer takes goes to the classifier (R30, R104). -/
theorem State.Classified.gapExpires_eq (h : s.Classified p f) :
    s.gapExpires p = ((s.completed p f).classify p f.buffer).finish := by
  obtain ⟨completing, clean, passed⟩ := h
  rw [State.gapExpires_completing completing, State.complete_clean completing clean]
  refine congrArg State.finish ?_
  rcases passed with ⟨unjudged, ordinary⟩ | ⟨sg, r, due, rfl, slot, other⟩
  · have routed : (s.completed p f).routeOrdinary p f.buffer = (s.completed p f).classify p f.buffer := by
      rw [State.routeOrdinary, completing.completed_frame, State.completed_isManagement, ordinary]
      rfl
    cases p with
    | trunk => exact routed
    | seg sg =>
      obtain ⟨receiving, lapsed⟩ := unjudged sg rfl
      unfold State.routeClean
      dsimp only
      split
      · rename_i r slot
        exact absurd slot (receiving r)
      · rename_i r due slot
        exact absurd slot (lapsed r due)
      · exact routed
  · have lapsed : ((s.completed (.seg sg) f).seg sg).slot = .lapsed r due := slot
    unfold State.routeClean
    dsimp only
    rw [lapsed]
    dsimp only
    rw [State.judgeLate, completing.completed_frame, if_neg other]

end

/-- A frame without a match is counted and released (R48). -/
theorem State.classify_unmatched {s : State} {p : Port} {b : Nat} (h : firstMatch s.rules p (s.pool.frame b) 0 = none) :
    s.classify p b = (s.count p .unmatched).dropRef b := by
  rw [State.classify, h]

/-- A frame whose first match is a DROP entry counts a hit and is released (R49, R65). -/
theorem State.classify_dropped {s : State} {p : Port} {b i : Nat} {e : Entry}
    (h : firstMatch s.rules p (s.pool.frame b) 0 = some (i, e)) (drops : e.rule.action = .drop) :
    s.classify p b = (s.withRules (s.rules.set i (some { e with hits := e.hits.bump }))).dropRef b := by
  rw [State.classify, h]
  dsimp only
  rw [drops, State.dispatch]

/-- Settles O16: the completed frame reaches the classifier, which counts it and drops its reference. -/
theorem unmatchedAndDroppedFramesAreReleased : Obligations.UnmatchedAndDroppedFramesAreReleased := by
  rintro s _ p f h rfl
  rw [exec_gapTimerExpiry h.completing.clock, h.gapExpires_eq, ← h.completing.completed_frame]
  refine ⟨fun unmatched => ?_, fun i e found drops => ?_⟩
  · rw [State.classify_unmatched unmatched]
    exact ⟨_, rfl, State.followUp_startsFrom _, (State.alerted_nil _).symm⟩
  · rw [State.classify_dropped found drops]
    exact ⟨_, rfl, State.followUp_startsFrom _, (State.alerted_nil _).symm⟩

end Sys2Proof.Machine
end

section
/-! SUPPORT. The dispatcher's FORWARD and EXCHANGE (R66 to R70, R73): what an offer answers, what each target and the source become
when a frame is forwarded, and how the buffer's count ends as the number of descriptors. -/

namespace Sys2Proof.Machine

/-! ### The answer to an offer (R73) -/

section
variable {s : State} {p : Port}

theorem PortState.isOff_eq_false {x : PortState} : x.isOff = false ↔ x.enabled = true ∧ x.tx.state ≠ .off := by
  simp [PortState.isOff]

theorem State.offerAnswer_eq_accepted : s.offerAnswer p = .accepted ↔ s.accepts p := by
  refine ⟨fun accepted => ?_, fun ⟨enabled, on, room⟩ => ?_⟩
  · obtain ⟨enabled, on⟩ := State.offerAnswer_accepted accepted
    exact ⟨enabled, on, State.depth_of_accepted accepted⟩
  · simp [State.offerAnswer, PortState.isOff_eq_false.mpr ⟨enabled, on⟩, Nat.not_le.mpr room]

theorem State.offerAnswer_off (off : (s.port p).isOff = true) : s.offerAnswer p = .off := if_pos off

theorem State.offerAnswer_full (on : (s.port p).isOff = false) (full : Config.queueLimit ≤ (s.port p).queue.depth) :
    s.offerAnswer p = .full := by
  simp [State.offerAnswer, on, full]

/-- An offer finds the port off, its queue full, or room there (R73). -/
theorem State.offer_cases (s : State) (p : Port) :
    (s.port p).isOff = true ∨ ((s.port p).isOff = false ∧ Config.queueLimit ≤ (s.port p).queue.depth) ∨ s.accepts p := by
  cases off : (s.port p).isOff with
  | true => exact .inl rfl
  | false =>
    obtain ⟨enabled, on⟩ := PortState.isOff_eq_false.mp off
    rcases Nat.lt_or_ge (s.port p).queue.depth Config.queueLimit with room | full
    · exact .inr (.inr ⟨enabled, on, room⟩)
    · exact .inr (.inl ⟨rfl, full⟩)

theorem State.not_accepts_of_off (off : (s.port p).isOff = true) : ¬ s.accepts p := by
  rintro ⟨enabled, on, _⟩
  exact absurd (PortState.isOff_eq_false.mpr ⟨enabled, on⟩) (by simp [off])

theorem State.not_accepts_of_full (full : Config.queueLimit ≤ (s.port p).queue.depth) : ¬ s.accepts p := by
  rintro ⟨_, _, room⟩
  exact absurd room (Nat.not_lt.mpr full)

end

/-! ### One FORWARD target (R66) -/

/-- A port after an offer of the descriptor `d`: an accepting queue has it at the tail of its part, a full one counts QFULL (R66,
R73). -/
def PortState.offered (x : PortState) (d : Descriptor) : PortState :=
  { x with
    queue :=
      if x.enabled = true ∧ x.tx.state ≠ .off ∧ x.queue.depth < Config.queueLimit then x.queue.push d else x.queue
    counters := x.counters.bumpIf (!x.isOff && decide (Config.queueLimit ≤ x.queue.depth)) .qfull }

section
variable {s : State} {src t q : Port} {b : Nat} {pr : Priority}

theorem State.forwardTo_accepted (h : s.accepts t) :
    s.forwardTo src b pr t = (s.withPool (s.pool.addRef b)).enqueue t b .plain pr := by
  rw [State.forwardTo, State.offerAnswer_eq_accepted.mpr h]

theorem State.forwardTo_off (h : (s.port t).isOff = true) : s.forwardTo src b pr t = s.count src .misroute := by
  rw [State.forwardTo, State.offerAnswer_off h]

theorem State.forwardTo_full (on : (s.port t).isOff = false) (h : Config.queueLimit ≤ (s.port t).queue.depth) :
    s.forwardTo src b pr t = s.count t .qfull := by
  rw [State.forwardTo, State.offerAnswer_full on h]

@[simp] theorem State.enqueue_port_ne (h : q ≠ t) (k : DescriptorKind) : (s.enqueue t b k pr).port q = s.port q :=
  State.withQueue_port_ne _ _ _ h

/-- A target alters only itself and the source. -/
theorem State.forwardTo_port_ne (ht : q ≠ t) (hs : q ≠ src) : (s.forwardTo src b pr t).port q = s.port q := by
  rcases s.offer_cases t with off | ⟨on, full⟩ | room
  · rw [State.forwardTo_off off, State.count_port_ne _ _ _ hs]
  · rw [State.forwardTo_full on full, State.count_port_ne _ _ _ ht]
  · rw [State.forwardTo_accepted room, State.enqueue_port_ne ht, State.withPool_port]

theorem State.forwardTo_target (hs : t ≠ src) :
    (s.forwardTo src b pr t).port t = (s.port t).offered ⟨b, .plain, pr, s.timeBase⟩ := by
  unfold PortState.offered
  rcases s.offer_cases t with off | ⟨on, full⟩ | room
  · rw [State.forwardTo_off off, State.count_port_ne _ _ _ hs, if_neg (State.not_accepts_of_off off)]
    simp [off, PortCounters.bumpIf]
  · rw [State.forwardTo_full on full, State.count_port_self, if_neg (State.not_accepts_of_full full)]
    simp [on, full, PortCounters.bumpIf]
  · have ⟨_, _, depth⟩ := room
    rw [State.forwardTo_accepted room, if_pos room]
    simp [State.enqueue, PortCounters.bumpIf, Nat.not_le.mpr depth]

/-- A target that is off counts MISROUTE on the source (R66). -/
theorem State.forwardTo_source (hs : src ≠ t) :
    (s.forwardTo src b pr t).port src =
      { s.port src with counters := (s.port src).counters.bumpIf (s.port t).isOff .misroute } := by
  rcases s.offer_cases t with off | ⟨on, full⟩ | room
  · rw [State.forwardTo_off off, State.count_port_self, off]
    rfl
  · rw [State.forwardTo_full on full, State.count_port_ne _ _ _ hs, on]
    rfl
  · have ⟨enabled, on, _⟩ := room
    rw [State.forwardTo_accepted room, State.enqueue_port_ne hs, PortState.isOff_eq_false.mpr ⟨enabled, on⟩]
    rfl

variable (s src t b pr)

/-- Only a descriptor that is queued takes a reference (R66). -/
theorem State.forwardTo_pool :
    (s.forwardTo src b pr t).pool = if s.accepts t then s.pool.addRef b else s.pool := by
  rcases s.offer_cases t with off | ⟨on, full⟩ | room
  · rw [State.forwardTo_off off, if_neg (State.not_accepts_of_off off)]
    rfl
  · rw [State.forwardTo_full on full, if_neg (State.not_accepts_of_full full)]
    rfl
  · rw [State.forwardTo_accepted room, if_pos room]
    rfl

/-- An offer touches the pool and the ports alone. -/
theorem State.forwardTo_frame : ∃ m ports, s.forwardTo src b pr t = { s with pool := m, ports := ports } := by
  unfold State.forwardTo
  split <;> exact ⟨_, _, rfl⟩

theorem State.forwardTo_timeBase : (s.forwardTo src b pr t).timeBase = s.timeBase := by
  obtain ⟨_, _, frame⟩ := s.forwardTo_frame src t b pr
  rw [frame]

end

/-! ### All FORWARD targets in order (R66, R67) -/

/-- The state once each of the targets `ts` has been offered a descriptor. -/
def State.forwardAll (s : State) (src : Port) (b : Nat) (pr : Priority) (ts : List Port) : State :=
  ts.foldl (fun s t => s.forwardTo src b pr t) s

section
variable {s : State} {src q : Port} {b : Nat} {pr : Priority} {ts : List Port}

theorem State.forwardAll_cons (t : Port) :
    s.forwardAll src b pr (t :: ts) = (s.forwardTo src b pr t).forwardAll src b pr ts := rfl

/-- FORWARD touches the pool and the ports alone. -/
theorem State.forwardAll_frame : ∃ m ports, s.forwardAll src b pr ts = { s with pool := m, ports := ports } := by
  induction ts generalizing s with
  | nil => exact ⟨_, _, rfl⟩
  | cons t ts ih =>
    obtain ⟨_, _, first⟩ := s.forwardTo_frame src t b pr
    obtain ⟨m, ports, rest⟩ := ih (s := s.forwardTo src b pr t)
    refine ⟨m, ports, ?_⟩
    rw [State.forwardAll_cons, rest, first]

/-- A port that is neither a target nor the source stays as it is. -/
theorem State.forwardAll_other (hq : q ∉ ts) (hs : q ≠ src) : (s.forwardAll src b pr ts).port q = s.port q := by
  induction ts generalizing s with
  | nil => rfl
  | cons t ts ih =>
    rw [State.forwardAll_cons, ih (List.not_mem_of_not_mem_cons hq),
      State.forwardTo_port_ne (List.ne_of_not_mem_cons hq) hs]

/-- The ports still to be offered a descriptor are as they were before the offer to `t`. -/
theorem State.forwardTo_port_later {t : Port} (fresh : t ∉ ts) (hs : src ∉ t :: ts) (hq : q ∈ ts) :
    (s.forwardTo src b pr t).port q = s.port q :=
  State.forwardTo_port_ne (fun e => fresh (e ▸ hq)) (fun e => hs (List.mem_cons_of_mem _ (e ▸ hq)))

/-- Each target is offered one descriptor, as it stands when the frame is dispatched (R66). -/
theorem State.forwardAll_target (nodup : ts.Nodup) (hs : src ∉ ts) (hq : q ∈ ts) :
    (s.forwardAll src b pr ts).port q = (s.port q).offered ⟨b, .plain, pr, s.timeBase⟩ := by
  induction ts generalizing s with
  | nil => nomatch hq
  | cons t ts ih =>
    obtain ⟨fresh, nodup⟩ := List.nodup_cons.mp nodup
    have later : src ∉ ts := List.not_mem_of_not_mem_cons hs
    rcases List.mem_cons.mp hq with rfl | hq
    · have other : q ≠ src := (List.ne_of_not_mem_cons hs).symm
      exact (State.forwardAll_other fresh other).trans (State.forwardTo_target other)
    · rw [State.forwardAll_cons, ih nodup later hq, State.forwardTo_port_later fresh hs hq, State.forwardTo_timeBase]

/-- The source counts MISROUTE once for each target that is off (R66). -/
theorem State.forwardAll_source (nodup : ts.Nodup) (hs : src ∉ ts) :
    (s.forwardAll src b pr ts).port src =
      { s.port src with
        counters := (fun c => c.bump .misroute)^[(ts.filter fun t => (s.port t).isOff).length] (s.port src).counters } := by
  induction ts generalizing s with
  | nil => rfl
  | cons t ts ih =>
    obtain ⟨fresh, nodup⟩ := List.nodup_cons.mp nodup
    have later : src ∉ ts := List.not_mem_of_not_mem_cons hs
    have other : src ≠ t := List.ne_of_not_mem_cons hs
    have offs : (ts.filter fun q => ((s.forwardTo src b pr t).port q).isOff) = ts.filter fun q => (s.port q).isOff :=
      List.filter_congr fun q hq => by rw [State.forwardTo_port_later fresh hs hq]
    rw [State.forwardAll_cons, ih nodup later, offs, State.forwardTo_source other, List.filter_cons]
    cases (s.port t).isOff <;> rfl

end

/-! ### The buffer of a forwarded frame (R67) -/

theorem Pool.addRef_held {m : Pool} {b n : Nat} (h : m.refCount b = n + 1) :
    m.addRef b = { m with refs := m.refs.set b (n + 2) } := by
  rw [Pool.addRef, h]

/-- A dropped reference lowers the count by one, and at 0 the buffer joins the free list's tail (R37). -/
theorem Pool.drop_held {m : Pool} {b n : Nat} (h : m.refCount b = n + 1) :
    m.drop b = { m with refs := m.refs.set b n, free := if n = 0 then m.free ++ [b] else m.free } := by
  rw [Pool.drop, h]
  cases n <;> rfl

theorem Pool.refCount_set_self {m : Pool} {b : Nat} (h : b < m.refs.length) (n : Nat) :
    Pool.refCount { m with refs := m.refs.set b n } b = n :=
  (Pool.refCount_set m b n b h).trans (if_pos rfl)

theorem Pool.set_refCount {m : Pool} (b : Nat) (h : b < m.refs.length) : m.refs.set b (m.refCount b) = m.refs := by
  rw [Pool.refCount, List.getD_eq_getElem _ _ h, List.set_getElem_self]

/-- Each accepting target adds one to the count of the frame's buffer (R66). -/
theorem State.forwardAll_pool {s : State} {src : Port} {b n : Nat} {pr : Priority} {ts : List Port} (nodup : ts.Nodup)
    (hs : src ∉ ts) (hb : b < s.pool.refs.length) (count : s.pool.refCount b = n + 1) :
    (s.forwardAll src b pr ts).pool =
      { s.pool with refs := s.pool.refs.set b ((ts.filter fun t => decide (s.accepts t)).length + n + 1) } := by
  induction ts generalizing s n with
  | nil =>
    have same : s.pool.refs.set b (n + 1) = s.pool.refs := count ▸ Pool.set_refCount b hb
    simp [State.forwardAll, same]
  | cons t ts ih =>
    obtain ⟨fresh, nodup⟩ := List.nodup_cons.mp nodup
    have later : src ∉ ts := List.not_mem_of_not_mem_cons hs
    have accepting : (ts.filter fun q => decide ((s.forwardTo src b pr t).accepts q)) = ts.filter fun q => decide (s.accepts q) :=
      List.filter_congr fun q hq => by simp only [State.accepts, State.forwardTo_port_later fresh hs hq]
    have offered := s.forwardTo_pool src t b pr
    by_cases room : s.accepts t
    · rw [if_pos room, Pool.addRef_held count] at offered
      have counted : ((t :: ts).filter fun q => decide (s.accepts q)).length =
          (ts.filter fun q => decide (s.accepts q)).length + 1 :=
        congrArg List.length (List.filter_cons_of_pos (p := fun q => decide (s.accepts q)) (decide_eq_true room))
      rw [State.forwardAll_cons,
        ih nodup later (n := n + 1) (by simpa [offered] using hb) (by rw [offered, Pool.refCount_set_self hb]), accepting,
        offered, counted, List.set_set, Nat.add_right_comm _ 1 n]
      rfl
    · rw [if_neg room] at offered
      have skipped : ((t :: ts).filter fun q => decide (s.accepts q)) = ts.filter fun q => decide (s.accepts q) :=
        List.filter_cons_of_neg (by simpa using room)
      rw [State.forwardAll_cons, ih nodup later (by rwa [offered]) (by rwa [offered]), accepting, offered, skipped]

theorem nodup_effectiveTargets (targets : PortSet) (src : Port) : (effectiveTargets targets src).Nodup :=
  List.Nodup.filter _ (by decide)

theorem mem_effectiveTargets {targets : PortSet} {src q : Port} :
    q ∈ effectiveTargets targets src ↔ targets.get q = true ∧ q ≠ src := by
  simp [effectiveTargets, Port.mem_list]

/-- The source is no target of its own frame (R66). -/
theorem source_notMem_effectiveTargets (targets : PortSet) (src : Port) : src ∉ effectiveTargets targets src :=
  fun h => (mem_effectiveTargets.mp h).2 rfl

theorem effectiveTargets_off (s : State) (targets : PortSet) (src : Port) :
    (effectiveTargets targets src).filter (fun q => (s.port q).isOff) =
      Port.list.filter fun q => targets.get q && decide (q ≠ src) && (s.port q).isOff := by
  rw [effectiveTargets, List.filter_filter]
  exact List.filter_congr fun _ _ => Bool.and_comm _ _

theorem effectiveTargets_accepting (s : State) (targets : PortSet) (src : Port) :
    (effectiveTargets targets src).filter (fun q => decide (s.accepts q)) =
      Port.list.filter fun q => decide (targets.get q = true ∧ q ≠ src ∧ s.accepts q) := by
  rw [effectiveTargets, List.filter_filter]
  refine List.filter_congr fun q _ => ?_
  rw [Bool.eq_iff_iff]
  simp only [Bool.and_eq_true, decide_eq_true_eq]
  tauto

/-! ### FORWARD as a whole (R66, R67) -/

section
variable (s : State) (src : Port) (b : Nat) (targets : PortSet) (pr : Priority)

theorem State.dispatchForward_eq :
    s.dispatchForward src b targets pr = (s.forwardAll src b pr (effectiveTargets targets src)).dropRef b := rfl

/-- Each port after FORWARD: a target's queue or its QFULL, the source's MISROUTE, and nothing elsewhere (R66). -/
theorem State.dispatchForward_port (q : Port) :
    (s.dispatchForward src b targets pr).port q =
      { s.port q with
        queue :=
          if targets.get q = true ∧ q ≠ src ∧ s.accepts q then (s.port q).queue.push ⟨b, .plain, pr, s.timeBase⟩
          else (s.port q).queue
        counters :=
          if q = src then
            (fun c => c.bump .misroute)^[(Port.list.filter fun q =>
              targets.get q && decide (q ≠ src) && (s.port q).isOff).length] (s.port src).counters
          else
            (s.port q).counters.bumpIf
              (targets.get q && !(s.port q).isOff && decide (Config.queueLimit ≤ (s.port q).queue.depth)) .qfull } := by
  have dropped : (s.dispatchForward src b targets pr).port q = (s.forwardAll src b pr (effectiveTargets targets src)).port q := rfl
  rw [dropped]
  have nodup := nodup_effectiveTargets targets src
  have apart := source_notMem_effectiveTargets targets src
  by_cases source : q = src
  · subst source
    rw [State.forwardAll_source nodup apart, effectiveTargets_off, if_pos rfl, if_neg (by simp)]
  · rw [if_neg source]
    by_cases target : targets.get q = true
    · rw [State.forwardAll_target nodup apart (mem_effectiveTargets.mpr ⟨target, source⟩)]
      simp [PortState.offered, target, source]
    · rw [State.forwardAll_other (fun h => target (mem_effectiveTargets.mp h).1) source]
      simp [target, PortCounters.bumpIf]

/-- The count of the frame's buffer ends as the number of descriptors, and at 0 the buffer is released (R67). -/
theorem State.dispatchForward_pool (held : s.pool.refCount b = 1) (hb : b < s.pool.refs.length) :
    ∃ n, n = (Port.list.filter fun q => decide (targets.get q = true ∧ q ≠ src ∧ s.accepts q)).length ∧
      (s.dispatchForward src b targets pr).pool =
        { s.pool with
          refs := s.pool.refs.set b n
          free := if n = 0 then s.pool.free ++ [b] else s.pool.free } := by
  refine ⟨_, rfl, ?_⟩
  have queued := State.forwardAll_pool (pr := pr) (nodup_effectiveTargets targets src)
    (source_notMem_effectiveTargets targets src) hb held
  rw [State.dispatchForward_eq, State.dropRef, State.withPool_pool, queued, effectiveTargets_accepting,
    Pool.drop_held (Pool.refCount_set_self hb _), List.set_set]

theorem State.dispatchForward_frame : ∃ m ports, s.dispatchForward src b targets pr = { s with pool := m, ports := ports } := by
  obtain ⟨_, _, frame⟩ :=
    State.forwardAll_frame (s := s) (src := src) (b := b) (pr := pr) (ts := effectiveTargets targets src)
  rw [State.dispatchForward_eq, frame]
  exact ⟨_, _, rfl⟩

end

/-! ### A matched frame -/

/-- The state in which a matched frame is dispatched: it has completed, and its entry `e` at index `i` has counted the hit (R28,
R49). -/
def State.hitCounted (s : State) (p : Port) (f : Assembly) (i : Nat) (e : Entry) : State :=
  (s.completed p f).withRules (s.rules.set i (some { e with hits := e.hits.bump }))

/-- A frame with a match is dispatched by its entry's action, and the event ends with the formation test (R49, R64). -/
theorem State.Classified.exec_matched {s : State} {p : Port} {f : Assembly} {i : Nat} {e : Entry} (h : s.Classified p f)
    (found : firstMatch s.rules p (s.assembled f) 0 = some (i, e)) :
    exec (.gapTimerExpiry p) s = .next (((s.hitCounted p f i e).dispatch p f.buffer i e.rule.action).alerted []).followUp := by
  rw [← h.completing.completed_frame] at found
  have here : firstMatch (s.completed p f).rules p ((s.completed p f).pool.frame f.buffer) 0 = some (i, e) := found
  rw [exec_gapTimerExpiry h.completing.clock, h.gapExpires_eq, State.classify, here, State.alerted_nil]
  rfl

/-- Settles O18: every port and the pool after FORWARD, from the state in which the frame is dispatched. -/
theorem frameIsForwarded : Obligations.FrameIsForwarded := by
  rintro s _ p f i e targets pr h rfl found forwards held length
  have inPool : f.buffer < (s.hitCounted p f i e).pool.refs.length :=
    (Pool.refCount_lt length (by rw [held]; exact Nat.one_ne_zero)).trans_eq length.symm
  rw [h.exec_matched found, forwards, State.dispatch]
  refine ⟨_, _, rfl, State.followUp_startsFrom _, rfl, ?_, (s.hitCounted p f i e).dispatchForward_port p f.buffer targets pr,
    (s.hitCounted p f i e).dispatchForward_pool p f.buffer targets pr held inPool⟩
  obtain ⟨_, _, frame⟩ := (s.hitCounted p f i e).dispatchForward_frame p f.buffer targets pr
  rw [frame]
  rfl

/-! ### EXCHANGE (R68 to R70) -/

section
variable {s : State} {src : Port} {target : Seg}

theorem State.routePasses_iff :
    s.routePasses src target = true ↔
      (s.port src).settings.role = .uplink ∧ (s.port (.seg target)).enabled = true ∧
        (s.port (.seg target)).settings.role = .field ∧ src ≠ .seg target := by
  simp [State.routePasses, and_assoc]

variable {b i retries : Nat} {pr : Priority} {notice : Bool}

/-- A request that passes the route check and finds room is queued with its buffer (R68, R69). -/
theorem State.dispatchExchange_queued (passes : s.routePasses src target = true) (room : s.accepts (.seg target)) :
    s.dispatchExchange src b i target pr retries notice =
      s.enqueue (.seg target) b (.exchange ⟨src, retries, notice, i⟩) pr := by
  simp only [State.dispatchExchange, passes, if_true, State.offerAnswer_eq_accepted.mpr room]

/-- A request that passes the route check and finds no room is refused with QUEUEFULL (R70). -/
theorem State.dispatchExchange_noRoom (passes : s.routePasses src target = true) (full : ¬ s.accepts (.seg target)) :
    s.dispatchExchange src b i target pr retries notice =
      ((s.count (.seg target) .qfull).dropRef b).noticeIf notice
        ⟨src, target, s.pool.ram.read (bufferAddress b 0), .queueFull, 0, 0#16, i⟩ := by
  unfold State.dispatchExchange
  dsimp only
  rw [if_pos passes]
  split
  · rename_i accepted
    exact absurd (State.offerAnswer_eq_accepted.mp accepted) full
  · rfl
  · rfl

/-- A request that fails the route check is refused with NOROUTE (R68, R70). -/
theorem State.dispatchExchange_noRoute (fails : ¬ s.routePasses src target = true) :
    s.dispatchExchange src b i target pr retries notice =
      ((s.count src .misroute).dropRef b).noticeIf notice
        ⟨src, target, s.pool.ram.read (bufferAddress b 0), .noRoute, 0, 0#16, i⟩ :=
  if_neg fails

end

/-- What offers and the route check look at is not changed by the frame's completion and its hit. -/
theorem State.hitCounted_port (s : State) (p : Port) (f : Assembly) (i : Nat) (e : Entry) (q : Port) :
    ((s.hitCounted p f i e).port q).enabled = (s.port q).enabled ∧
      ((s.hitCounted p f i e).port q).settings = (s.port q).settings ∧
      ((s.hitCounted p f i e).port q).tx = (s.port q).tx ∧ ((s.hitCounted p f i e).port q).queue = (s.port q).queue := by
  by_cases here : q = p
  · subst here
    simp [State.hitCounted, State.completed, State.port, State.withRules]
  · simp [State.hitCounted, State.completed, State.port, State.withRules, here]

theorem State.hitCounted_accepts (s : State) (p : Port) (f : Assembly) (i : Nat) (e : Entry) (q : Port) :
    (s.hitCounted p f i e).accepts q ↔ s.accepts q := by
  obtain ⟨enabled, _, tx, queue⟩ := s.hitCounted_port p f i e q
  rw [State.accepts, enabled, tx, queue]

theorem State.hitCounted_routePasses (s : State) (p : Port) (f : Assembly) (i : Nat) (e : Entry) (target : Seg) :
    (s.hitCounted p f i e).routePasses p target = s.routePasses p target := by
  obtain ⟨_, source, _, _⟩ := s.hitCounted_port p f i e p
  obtain ⟨enabled, settings, _, _⟩ := s.hitCounted_port p f i e (.seg target)
  rw [State.routePasses, source, enabled, settings]
  rfl

/-- Settles O19: the route check, then the offer, from the state in which the frame is dispatched. -/
theorem exchangeRequestIsQueuedOrRefused : Obligations.ExchangeRequestIsQueuedOrRefused := by
  rintro s _ p f i e target pr retries notice h found exchanges rfl
  have route := s.hitCounted_routePasses p f i e target
  have room := s.hitCounted_accepts p f i e (.seg target)
  rw [h.exec_matched found, exchanges, State.dispatch]
  refine ⟨_, rfl, State.followUp_startsFrom _, fun passes => ⟨fun accepts => ?_, fun full => ?_⟩, fun fails => ?_⟩
  · rw [State.dispatchExchange_queued (route.trans (State.routePasses_iff.mpr passes)) (room.mpr accepts)]
    rfl
  · rw [State.dispatchExchange_noRoom (route.trans (State.routePasses_iff.mpr passes)) (mt room.mp full)]
    rfl
  · rw [State.dispatchExchange_noRoute (route ▸ mt State.routePasses_iff.mp fails)]
    rfl

end Sys2Proof.Machine
end

section
/-! SUPPORT. The arbiter: when each of the waiting frames is chosen (R78), and what the grant to the queue is (R79). -/

namespace Sys2Proof.Machine

section
variable {s : State} {p : Port}

/-! ### What waits on a port -/

/-- A retry waits exactly on a FIELD segment whose slot is in RESEND (R78). -/
theorem State.retryWaiting_eq_none :
    s.retryWaiting p = none ↔
      ∀ sg r, p = .seg sg → (s.port p).settings.role = .field → (s.seg sg).slot ≠ .resend r := by
  refine ⟨?_, fun h => Option.eq_none_iff_forall_ne_some.mpr fun r waits => ?_⟩
  · rintro none sg r rfl role slot
    have field : (s.segSettings sg).role = .field := role
    simp [State.retryWaiting, field, slot] at none
  · obtain ⟨sg, rfl, role, slot⟩ := State.retryWaiting_some waits
    exact h sg r rfl role slot

theorem State.retryWaiting_resend {sg : Seg} {r : ExchangeRecord} (role : (s.port (.seg sg)).settings.role = .field)
    (slot : (s.seg sg).slot = .resend r) : s.retryWaiting (.seg sg) = some r := by
  have field : (s.segSettings sg).role = .field := role
  simp [State.retryWaiting, field, slot]

/-- No retry waits on a port in UPLINK role (R78). -/
theorem State.retryWaiting_uplink (role : (s.port p).settings.role = .uplink) : s.retryWaiting p = none :=
  State.retryWaiting_eq_none.mpr fun _ _ _ field => nomatch role.symm.trans field

theorem State.replyWaiting_eq_true :
    s.replyWaiting p = true ↔ (s.port p).settings.role = .uplink ∧ (s.port p).lane ≠ none := by
  simp [State.replyWaiting, Option.isSome_iff_ne_none]

theorem State.replyWaiting_eq_false :
    s.replyWaiting p = false ↔ (s.port p).lane = none ∨ (s.port p).settings.role = .field := by
  rw [← Bool.not_eq_true, State.replyWaiting_eq_true]
  cases (s.port p).settings.role <;> simp

theorem State.alertWaiting_eq_false : s.alertWaiting p = false ↔ p ≠ .trunk ∨ s.alertLane = none := by
  by_cases trunk : p = .trunk <;> simp [State.alertWaiting, trunk]

/-! ### The order of the arbiter (R78) -/

theorem State.choice_retryWaiting {r : ExchangeRecord} (retry : s.retryWaiting p = some r) : s.choice p = some (.retry r) := by
  rw [State.choice, retry]

theorem State.choice_reply (noRetry : s.retryWaiting p = none) (reply : s.replyWaiting p = true) : s.choice p = some .reply := by
  rw [State.choice, noRetry]
  exact if_pos reply

theorem State.choice_alert (noRetry : s.retryWaiting p = none) (noReply : s.replyWaiting p = false)
    (alert : s.alertWaiting p = true) : s.choice p = some .alert := by
  rw [State.choice, noRetry]
  simp [noReply, alert]

theorem State.choice_grant (noRetry : s.retryWaiting p = none) (noReply : s.replyWaiting p = false)
    (noAlert : s.alertWaiting p = false) : s.choice p = (s.port p).queue.grant := by
  rw [State.choice, noRetry]
  simp [noReply, noAlert]

end

/-! ### The grant to the queue (R79) -/

section
variable {q : TxQueue} {u n : Descriptor} {us ns : List Descriptor}

theorem TxQueue.grant_empty (urgent : q.urgent = []) (normal : q.normal = []) : q.grant = none := by
  rw [TxQueue.grant, urgent, normal]

theorem TxQueue.grant_urgentOnly (urgent : q.urgent = u :: us) (normal : q.normal = []) :
    q.grant = some (.take u ⟨us, [], 0⟩) := by
  rw [TxQueue.grant, urgent, normal]

theorem TxQueue.grant_normalOnly (urgent : q.urgent = []) (normal : q.normal = n :: ns) :
    q.grant = some (.take n ⟨[], ns, 0⟩) := by
  rw [TxQueue.grant, urgent, normal]

/-- With both parts waiting, the URGENT head goes until four grants in a row have passed the NORMAL part over (R79). -/
theorem TxQueue.grant_both (urgent : q.urgent = u :: us) (normal : q.normal = n :: ns) :
    q.grant = some (if q.aging < 4 then .take u ⟨us, n :: ns, q.aging + 1⟩ else .take n ⟨u :: us, ns, 0⟩) := by
  rw [TxQueue.grant, urgent, normal]
  by_cases young : q.aging < 4
  · rw [if_pos young]
    exact if_neg (Nat.not_le.mpr young)
  · rw [if_neg young]
    exact if_pos (Nat.le_of_not_lt young)

end

/-- Settles O27: what waits is looked for in the arbiter's order, and the queue is granted last. -/
theorem arbiterFollowsItsOrder : Obligations.ArbiterFollowsItsOrder := by
  intro s p
  refine ⟨?_, fun role lane => ?_, ?_, fun noResend noReply noAlert => ?_⟩
  · rintro sg r rfl role slot
    exact State.choice_retryWaiting (State.retryWaiting_resend role slot)
  · exact State.choice_reply (State.retryWaiting_uplink role) (State.replyWaiting_eq_true.mpr ⟨role, lane⟩)
  · rintro rfl noReply lane
    exact State.choice_alert rfl (State.replyWaiting_eq_false.mpr noReply) (Option.isSome_iff_ne_none.mpr lane)
  · rw [State.choice_grant (State.retryWaiting_eq_none.mpr noResend) (State.replyWaiting_eq_false.mpr noReply)
      (State.alertWaiting_eq_false.mpr noAlert)]
    exact ⟨TxQueue.grant_empty, fun _ _ => TxQueue.grant_urgentOnly, fun _ _ => TxQueue.grant_normalOnly,
      fun _ _ _ _ => TxQueue.grant_both⟩

end Sys2Proof.Machine
end

section
/-! SUPPORT. The send end: the port after its frame (R12, R13), and what becomes of the frame's reference, of the slot and of the
reply lane (R76, R82, R93, R94, R125 to R127). -/

namespace Sys2Proof.Machine

section
variable (s : State) (p : Port)

/-! ### The port after its frame -/

theorem State.sentOut_eq : (s.port p).sentOut p s.now = s.sentPort p := by
  cases p with
  | trunk => rfl
  | seg sg =>
    unfold PortState.sentOut PortState.afterSend State.sentPort
    dsimp only
    split <;> rfl

theorem State.sent_eq : (s.withPort p ((s.port p).afterSend p s.now)).count p .txframes = s.sent p := by
  rw [State.count, State.withPort_port_self, State.withPort_withPort]
  exact congrArg (s.withPort p) (s.sentOut_eq p)

@[simp] theorem State.sentPort_settings : (s.sentPort p).settings = (s.port p).settings := by
  obtain ⟨_, _, settings, _, _⟩ := (s.port p).sentOut_parts p s.now
  rw [← State.sentOut_eq, settings]

@[simp] theorem State.sentPort_lane : (s.sentPort p).lane = (s.port p).lane := by
  cases p with
  | trunk => rfl
  | seg sg =>
    unfold State.sentPort
    dsimp only
    split <;> rfl

@[simp] theorem State.sent_port_self : (s.sent p).port p = s.sentPort p := PerPort.get_set_self _ _ _

@[simp] theorem State.sent_segSettings (sg : Seg) : (s.sent p).segSettings sg = s.segSettings sg := by
  by_cases here : Port.seg sg = p
  · subst here
    simp [State.segSettings]
  · exact congrArg PortState.settings (PerPort.get_set_ne _ here _)

end

section
variable {s : State} {p : Port}

/-! ### The send end -/

theorem exec_sendEnd (h : s.clockRunning = true) (p : Port) : exec (.sendEnd p) s = .next (s.sendEnds p) :=
  congrArg Host.Outcome.next (State.whenClocked_running h _)

/-- A port that is not sending has no send end (log 3). -/
theorem State.sendEnds_silent (h : ∀ cur since, (s.port p).tx.state ≠ .sending cur since) : s.sendEnds p = s := by
  unfold State.sendEnds
  split
  · rfl
  · rfl
  · rfl
  · rename_i cur since sending
    exact absurd sending (h cur since)

/-- The frame has been counted and the guard started when its kind is looked at (R12, R13, R82). -/
theorem State.sendEnds_sending {cur : Current} {since : Nat} (h : (s.port p).tx.state = .sending cur since) :
    s.sendEnds p = ((s.sent p).finishCurrent p cur).followUp := by
  rw [State.sendEnds, h, ← State.sent_eq]

/-! ### Frames without an answer (R82, R93) -/

theorem State.finishDescriptor_noAnswer {d : Descriptor} (h : ∀ x, d.kind ≠ .exchange x) :
    s.finishDescriptor p d = (s.dropRef d.buffer).slotSettles p := by
  unfold State.finishDescriptor
  split
  · rename_i x kind
    exact absurd kind (h x)
  all_goals rfl

theorem State.slotSettles_waiting {sg : Seg} (h : (s.seg sg).slot = .sendingNoAnswer) :
    s.slotSettles (.seg sg) = s.withSlot sg (.settling (s.timerDue (s.segSettings sg).settleMillis)) := by
  simp only [State.slotSettles, h]

theorem State.slotSettles_other {sg : Seg} (h : (s.seg sg).slot ≠ .sendingNoAnswer) : s.slotSettles (.seg sg) = s := by
  unfold State.slotSettles
  dsimp only
  split
  · rename_i waiting
    exact absurd waiting h
  · rfl

/-- A send end changes nothing but the segments when it tells a slot that it settles (R93). -/
theorem State.slotSettles_eq : s.slotSettles p = { s with segs := (s.slotSettles p).segs } := by
  cases p with
  | trunk => rfl
  | seg sg =>
    by_cases waiting : (s.seg sg).slot = .sendingNoAnswer
    · rw [State.slotSettles_waiting waiting]
      rfl
    · rw [State.slotSettles_other waiting]

/-- The slot of the port that has sent settles, if it expects no answer; every other is left alone (R93). -/
theorem State.slotSettles_seg (sg : Seg) :
    (s.slotSettles p).seg sg =
      { s.seg sg with
        slot :=
          if p = .seg sg ∧ (s.seg sg).slot = .sendingNoAnswer then
            .settling (s.timerDue (s.segSettings sg).settleMillis)
          else (s.seg sg).slot } := by
  by_cases here : p = .seg sg ∧ (s.seg sg).slot = .sendingNoAnswer
  · obtain ⟨rfl, waiting⟩ := here
    rw [State.slotSettles_waiting waiting, State.withSlot_seg_self, if_pos ⟨rfl, waiting⟩]
  · rw [if_neg here]
    cases p with
    | trunk => rfl
    | seg q =>
      by_cases waiting : (s.seg q).slot = .sendingNoAnswer
      · have other : sg ≠ q := by
          rintro rfl
          exact here ⟨rfl, waiting⟩
        rw [State.slotSettles_waiting waiting, State.withSlot_seg_ne _ _ _ other]
      · rw [State.slotSettles_other waiting]

/-! ### Attempts (R82, R94) -/

theorem State.attemptOn_sending {sg : Seg} {r : ExchangeRecord} (h : (s.seg sg).slot = .sendingExchange r) :
    s.attemptOn (.seg sg) = some (sg, r) := by
  simp only [State.attemptOn, h]

/-- The first attempt's reference passes to the slot (R82). -/
theorem State.finishDescriptor_attempt {sg : Seg} {r : ExchangeRecord} {d : Descriptor} {x : ExchangeParams}
    (slot : (s.seg sg).slot = .sendingExchange r) (kind : d.kind = .exchange x) :
    s.finishDescriptor (.seg sg) d = s.slotAwaits sg r := by
  simp only [State.finishDescriptor, kind, State.attemptOn_sending slot]

/-- A retry's own reference is dropped (R82). -/
theorem State.finishRetry_attempt {sg : Seg} {r : ExchangeRecord} (slot : (s.seg sg).slot = .sendingExchange r) (b : Nat) :
    s.finishRetry (.seg sg) b = (s.dropRef b).slotAwaits sg r := by
  simp only [State.finishRetry, State.attemptOn_sending slot]

/-- The slot awaits the answer for the whole response timeout (R89, R94). -/
theorem State.sent_slotAwaits (sg : Seg) (r : ExchangeRecord) :
    (s.sent (.seg sg)).slotAwaits sg r =
      { s.sent (.seg sg) with
        segs := s.segs.set sg
          { s.seg sg with
            slot := .awaiting { r with remaining := some (s.segSettings sg).responseMillis }
              (s.timerDue (s.segSettings sg).responseMillis) } } := by
  rw [State.slotAwaits, State.sent_segSettings]
  rfl

end

/-- Settles O30: the port's part is the same for every frame; then the descriptor, the retry and the slot. -/
theorem sendEndOfAFrameOrAnAttempt : Obligations.SendEndOfAFrameOrAnAttempt := by
  refine ⟨?_, ?_⟩
  · rintro s _ p clock rfl
    refine ⟨fun d since sending noAnswer => ?_, fun silent => ?_⟩
    · rw [exec_sendEnd clock, State.sendEnds_sending sending, State.finishCurrent, State.finishDescriptor_noAnswer noAnswer]
      refine ⟨_, _, rfl, State.followUp_startsFrom _, State.slotSettles_eq, fun sg => ?_⟩
      have settings : ((s.sent p).dropRef d.buffer).segSettings sg = s.segSettings sg := s.sent_segSettings p sg
      refine (State.slotSettles_seg sg).trans ?_
      rw [settings]
      rfl
    · rw [exec_sendEnd clock, State.sendEnds_silent silent]
  · rintro s _ sg r clock slot rfl
    have sentSlot : ((s.sent (.seg sg)).seg sg).slot = .sendingExchange r := slot
    refine ⟨fun d x since sending kind => ?_, fun b since sending => ?_⟩
    · rw [exec_sendEnd clock, State.sendEnds_sending sending, State.finishCurrent,
        State.finishDescriptor_attempt sentSlot kind, State.sent_slotAwaits]
      exact ⟨_, rfl, State.followUp_startsFrom _, rfl⟩
    · rw [exec_sendEnd clock, State.sendEnds_sending sending, State.finishCurrent, State.finishRetry_attempt sentSlot]
      refine ⟨_, rfl, State.followUp_startsFrom _, ?_⟩
      exact congrArg (State.withPool · (s.pool.drop b)) (State.sent_slotAwaits sg r)

/-! ### Replies (R76, R125 to R127) -/

section
variable {s : State} {p : Port}

/-- A pending address tied to the reply is in force (R127). -/
theorem State.settleAddress_eq (id : Nat) : s.settleAddress id = s.withAgent (s.agent.addressed id) := by
  cases pending : s.agent.pendingAddress with
  | none =>
    rw [State.settleAddress, Agent.addressed, pending]
    rfl
  | some pa =>
    rw [State.settleAddress, Agent.addressed, pending]
    by_cases tied : pa.tie = id
    · exact (if_pos tied).trans (congrArg s.withAgent (if_pos tied).symm)
    · exact (if_neg tied).trans (congrArg s.withAgent (if_neg tied).symm)

/-- An address that comes into force leaves the owed reply as it is (R127). -/
theorem Agent.owedTo_addressed (a : Agent) (id : Nat) : (a.addressed id).owedTo p = a.owedTo p := by
  unfold Agent.addressed
  split
  · rfl
  · split <;> rfl

/-- An address that comes into force leaves the held reply as it is (R127). -/
theorem Agent.heldFor_addressed (a : Agent) (id : Nat) : (a.addressed id).heldFor p = a.heldFor p := by
  unfold Agent.addressed
  split
  · rfl
  · split <;> rfl

/-- A reply is held for a port exactly in REPLY-WAIT for it (R125). -/
theorem Agent.heldFor_eq_some {a : Agent} {h : Reply} : a.heldFor p = some h ↔ a.mode = .replyWait p h := by
  unfold Agent.heldFor
  cases a.mode with
  | idle => simp
  | replyWait q r => by_cases here : q = p <;> simp [here]

/-- The free lane takes a deferred reply first (R126). -/
theorem State.laneFree_owed {o : Reply} (owed : s.agent.owedTo p = some o) :
    s.laneFree p = (s.withAgent { s.agent with deferred := none }).withLane p (some o) := by
  unfold Agent.owedTo at owed
  rw [State.laneFree, owed]

/-- Without a deferred reply the free lane takes the held one (R125). -/
theorem State.laneFree_held {h : Reply} (owed : s.agent.owedTo p = none) (held : s.agent.heldFor p = some h) :
    s.laneFree p = (s.withAgent { s.agent with mode := .idle }).withLane p (some h) := by
  unfold Agent.owedTo at owed
  have mode : s.agent.mode = .replyWait p h := Agent.heldFor_eq_some.mp held
  simp only [State.laneFree, owed, mode, if_true]

theorem State.laneFree_none (owed : s.agent.owedTo p = none) (held : s.agent.heldFor p = none) : s.laneFree p = s := by
  unfold Agent.owedTo at owed
  cases mode : s.agent.mode with
  | idle => simp only [State.laneFree, owed, mode]
  | replyWait q r =>
    have elsewhere : q ≠ p := by
      rintro rfl
      simp [Agent.heldFor_eq_some.mpr mode] at held
    simp only [State.laneFree, owed, mode, elsewhere, if_false]

/-- The send end of a reply without a restart mark: the lane is empty and the address in force, then the lane is free (R76,
R127). -/
theorem State.finishReply_plain {r : Reply} (lane : (s.port p).lane = some r) (plain : r.restart = none) :
    s.finishReply p = ((s.withLane p none).withAgent (s.agent.addressed r.id)).laneFree p := by
  simp only [State.finishReply, lane, plain, State.settleAddress_eq, State.withLane_agent]

/-- A lane written twice holds what was written last. -/
theorem State.withLane_withAgent_withLane (x y : Option Reply) (a b : Agent) :
    (((s.withLane p x).withAgent a).withAgent b).withLane p y =
      { s with ports := s.ports.set p { s.port p with lane := y }, agent := b } := by
  simp [State.withLane, State.withAgent, State.withPort, State.port]

end

/-- Settles O31: the address first, then the free lane takes the deferred reply, else the held one. -/
theorem sendEndOfAReply : Obligations.SendEndOfAReply := by
  rintro s _ p r since clock sending lane plain rfl
  have sentLane : ((s.sent p).port p).lane = some r := by rw [State.sent_port_self, State.sentPort_lane, lane]
  rw [exec_sendEnd clock, State.sendEnds_sending sending, State.finishCurrent, State.finishReply_plain sentLane plain]
  refine ⟨_, rfl, State.followUp_startsFrom _, fun o owed => ?_, fun h owed held => ?_, fun owed held => ?_⟩
  · rw [State.laneFree_owed ((Agent.owedTo_addressed _ _).trans owed)]
    exact State.withLane_withAgent_withLane _ _ _ _
  · rw [State.laneFree_held ((Agent.owedTo_addressed _ _).trans owed) ((Agent.heldFor_addressed _ _).trans held)]
    exact State.withLane_withAgent_withLane _ _ _ _
  · rw [State.laneFree_none ((Agent.owedTo_addressed _ _).trans owed) ((Agent.heldFor_addressed _ _).trans held)]
    rfl

end Sys2Proof.Machine
end
section
/-! SUPPORT. What can happen to an exchange slot, as the arrows of its state diagram (R87 to R109): every operation takes each slot
along a path of `Slot.Move`s, so that a law of the slots is kept by every step if each arrow keeps it. -/

namespace Sys2Proof.Machine

/-! ### The arrows -/

/-- One change of a slot. An exchange goes SENDING, AWAITING, RECEIVING; a failed attempt goes to LAPSED, with a retry pending or
for good; from RESEND the next attempt is sent. A slot may be emptied, and a first attempt begun, at any time. -/
inductive Slot.Move : Slot → Slot → Prop
  /-- FREE, out of use, SENDING without an answer, SETTLING (R87, R93, R98, R105, R109). -/
  | empties (sl : Slot) {x : Slot} (empty : x.record = none) : Slot.Move sl x
  /-- The first attempt (R92). -/
  | opens (sl : Slot) {r : ExchangeRecord} (first : r.attempt = 1) (fresh : r.retryPending = false) :
      Slot.Move sl (.sendingExchange r)
  /-- The attempt has been sent (R94). -/
  | awaits (r : ExchangeRecord) (left : Option Nat) (due : Nat) :
      Slot.Move (.sendingExchange r) (.awaiting { r with remaining := left } due)
  /-- A character arrives (R95). -/
  | hears (r : ExchangeRecord) (due : Nat) (left : Option Nat) :
      Slot.Move (.awaiting r due) (.receiving { r with remaining := left })
  /-- The attempt has failed and another is allowed (R102). -/
  | retries {sl : Slot} {q r : ExchangeRecord} (waits : sl.Waits q) (attempt : r.attempt = q.attempt)
      (retries : r.retries = q.retries) (more : r.attempt < 1 + r.retries) (due : Nat) :
      Slot.Move sl (.lapsed { r with retryPending := true } due)
  /-- The last attempt has failed (R103). -/
  | fails {sl : Slot} {q r : ExchangeRecord} (waits : sl.Waits q) (attempt : r.attempt = q.attempt)
      (retries : r.retries = q.retries) (last : ¬ r.attempt < 1 + r.retries) (due : Nat) :
      Slot.Move sl (.lapsed { r with buffer := none, retryPending := false } due)
  /-- The lapse is over and a retry waits (R105). -/
  | resends {r : ExchangeRecord} (due : Nat) (pending : r.retryPending = true) : Slot.Move (.lapsed r due) (.resend r)
  /-- The next attempt is sent (R106). -/
  | sendsAgain (r : ExchangeRecord) :
      Slot.Move (.resend r) (.sendingExchange { r with attempt := r.attempt + 1, retryPending := false })

/-- Every arrow keeps the law of R108: only R102 leaves a retry pending, and only where the limit has not been reached. -/
theorem Slot.Move.tries {v w : Slot} (m : Slot.Move v w) (h : v.Tries) : w.Tries := by
  cases m with
  | empties _ empty => exact .of_none empty
  | opens _ first fresh =>
    refine .of_record rfl ⟨first.ge, by omega, fun pending => ?_⟩ nofun
    rw [fresh] at pending
    nomatch pending
  | awaits r => exact .of_record rfl (h.attempt r rfl) nofun
  | hears r => exact .of_record rfl (h.attempt r rfl) nofun
  | @retries _ q r waits attempt retries more =>
    obtain ⟨first, last, _⟩ := waits.attemptOk h
    exact .of_record rfl ⟨attempt ▸ first, more.le, fun _ => more⟩ nofun
  | @fails _ q r waits attempt retries =>
    obtain ⟨first, last, _⟩ := waits.attemptOk h
    rw [← attempt] at first last
    rw [← retries] at last
    exact .of_record rfl ⟨first, last, nofun⟩ nofun
  | @resends r due pending =>
    refine ⟨fun q hq => ?_, fun q hq => ?_⟩
    · cases hq
      exact h.attempt r rfl
    · cases hq
      exact pending
  | sendsAgain r =>
    obtain ⟨first, _, more⟩ := h.attempt r rfl
    have room : r.attempt < 1 + r.retries := more (h.resend r rfl)
    exact .of_record rfl ⟨Nat.le_add_left _ _, room, nofun⟩ nofun

/-- Each slot of `t` comes by arrows from that of `s`. -/
def State.Moves (s t : State) : Prop := ∀ sg, Relation.ReflTransGen Slot.Move (s.seg sg).slot (t.seg sg).slot

theorem State.Moves.tries {s t : State} (m : s.Moves t) (h : ∀ sg, (s.seg sg).slot.Tries) (sg : Seg) : (t.seg sg).slot.Tries := by
  have path := m sg
  generalize (t.seg sg).slot = w at path
  induction path with
  | refl => exact h sg
  | tail _ move ih => exact move.tries ih

section
variable {s u v : State}

theorem State.Moves.refl (s : State) : s.Moves s := fun _ => .refl

theorem State.Moves.trans (h : s.Moves u) (k : u.Moves v) : s.Moves v := fun sg => (h sg).trans (k sg)

/-- An operation that leaves every slot as it is. -/
theorem State.Moves.quiet (h : s.Moves u) (same : ∀ sg, (v.seg sg).slot = (u.seg sg).slot) : s.Moves v := fun sg => by
  rw [same sg]
  exact h sg

/-- One slot set along an arrow. -/
theorem State.Moves.withSlot (h : s.Moves u) {sg : Seg} {sl x : Slot} (here : (u.seg sg).slot = sl) (m : Slot.Move sl x) :
    s.Moves (u.withSlot sg x) := fun g => by
  by_cases hg : g = sg
  · subst hg
    rw [State.withSlot_seg_self]
    exact (h g).tail (here ▸ m)
  · rw [State.withSlot_seg_ne _ _ _ hg]
    exact h g

/-- One slot emptied. -/
theorem State.Moves.empty (h : s.Moves u) (sg : Seg) {x : Slot} (empty : x.record = none) : s.Moves (u.withSlot sg x) :=
  h.withSlot rfl (.empties _ empty)

theorem State.Moves.foldl {α : Type} {f : State → α → State} (hf : ∀ u a, State.Moves u (f u a)) (h : s.Moves u) (l : List α) :
    s.Moves (l.foldl f u) := by
  induction l generalizing u with
  | nil => exact h
  | cons a l ih => exact ih (h.trans (hf u a))

end

/-! ### Operations that leave the slots alone -/

section
variable (s : State) (g : Seg)

@[simp] theorem State.countExchange_slot (sg : Seg) (k : ExchangeCounter) :
    ((s.countExchange sg k).seg g).slot = (s.seg g).slot := State.slot_of_ledger (s.countExchange_ledger sg k) g

@[simp] theorem State.dropRef_seg (b : Nat) : (s.dropRef b).seg g = s.seg g := rfl

@[simp] theorem State.enqueue_seg (p : Port) (b : Nat) (k : DescriptorKind) (pr : Priority) :
    (s.enqueue p b k pr).seg g = s.seg g := rfl

@[simp] theorem State.startSending_seg (p : Port) (cur : Current) : (s.startSending p cur).seg g = s.seg g := rfl

@[simp] theorem State.countErrors_seg (p : Port) (e : ErrorSet) : (s.countErrors p e).seg g = s.seg g := by
  rw [State.countErrors_eq, State.withPort_seg]

@[simp] theorem State.raiseCause_seg (k : Cause) : (s.raiseCause k).seg g = s.seg g := s.raiseCauses_seg [k] g

@[simp] theorem State.formAlert_seg : s.formAlert.seg g = s.seg g := by
  unfold State.formAlert
  split <;> rfl

@[simp] theorem State.placeCurrentAlert_seg : s.placeCurrentAlert.seg g = s.seg g := by
  unfold State.placeCurrentAlert
  split <;> rfl

@[simp] theorem State.offerSnapshot_seg (p : Port) (k : SnapshotKind) (stamp : Stamp) (n : Nat) (bytes : List Byte) :
    (s.offerSnapshot p k stamp n bytes).seg g = s.seg g := by
  rw [State.offerSnapshot_eq, State.raiseCauses_seg, State.withSnapshot_seg]

@[simp] theorem State.noticeIf_seg (flag : Bool) (n : NoticeRequest) : (s.noticeIf flag n).seg g = s.seg g := by
  obtain ⟨_, segs, _⟩ := s.noticeIf_keeps flag n
  rw [State.seg, segs, State.seg]

@[simp] theorem State.settleAddress_seg (id : Nat) : (s.settleAddress id).seg g = s.seg g := by
  rw [State.settleAddress_eq, State.withAgent_seg]

@[simp] theorem State.guardFromCharacter_seg (p : Port) (t : Nat) : (s.guardFromCharacter p t).seg g = s.seg g := by
  cases p <;> rfl

@[simp] theorem State.abortSending_seg (p : Port) : (s.abortSending p).seg g = s.seg g := by
  obtain ⟨_, _, e⟩ := s.abortSending_eq p
  rw [e, State.dropRef?_seg, State.withPort_seg]

/-- The classifier and the dispatcher touch no slot: an exchange opens when its request is sent (R68, R92). -/
@[simp] theorem State.classify_seg (src : Port) (b : Nat) : (s.classify src b).seg g = s.seg g := by
  have dispatched (u : State) (i : Nat) (a : Action) : (u.dispatch src b i a).seg g = u.seg g := by
    cases a with
    | drop => rfl
    | forward targets pr =>
      obtain ⟨_, _, frame⟩ := u.dispatchForward_frame src b targets pr
      rw [State.dispatch, frame]
      rfl
    | exchange target pr retries notice =>
      unfold State.dispatch State.dispatchExchange
      dsimp only
      split
      · split <;> simp
      · simp
  unfold State.classify
  split
  · rfl
  · exact dispatched _ _ _

@[simp] theorem State.takeManagementFrame_seg (p : Port) (b : Nat) : (s.takeManagementFrame p b).seg g = s.seg g := by
  have reported : (s.reportManagement p).seg g = s.seg g := by
    cases p with
    | seg sg => rfl
    | trunk =>
      unfold State.reportManagement State.reportTrunkManagement
      dsimp only
      split
      · exact State.placeCurrentAlert_seg _ g
      · rfl
  unfold State.takeManagementFrame State.joinInput
  split <;> exact reported

@[simp] theorem State.routeOrdinary_seg (p : Port) (b : Nat) : (s.routeOrdinary p b).seg g = s.seg g := by
  unfold State.routeOrdinary
  split <;> simp

@[simp] theorem State.takeCharacter_seg (p : Port) (data : Byte) (parity framing : Bool) (t : Nat) :
    (s.takeCharacter p data parity framing t).seg g = s.seg g := by
  unfold State.takeCharacter
  split
  · rfl
  · rfl
  · rfl
  · unfold State.assemble
    split <;> simp
  all_goals simp

@[simp] theorem State.receive_seg (p : Port) (data : Byte) (a b : Bool) : (s.receive p data a b).seg g = s.seg g := by
  unfold State.receive
  dsimp only
  split
  · rfl
  · split <;> simp

@[simp] theorem State.releaseHeld_seg (p : Port) : (s.releaseHeld p).seg g = s.seg g := by
  unfold State.releaseHeld
  split <;> simp

@[simp] theorem State.storeBreakByte_seg (f : Assembly) : (s.storeBreakByte f).seg g = s.seg g := by
  unfold State.storeBreakByte
  split <;> rfl

@[simp] theorem State.lineHigh_seg (p : Port) : (s.lineHigh p).seg g = s.seg g := by
  unfold State.lineHigh
  split <;> rfl

@[simp] theorem State.laneFree_seg (p : Port) : (s.laneFree p).seg g = s.seg g := by
  unfold State.laneFree
  split
  · rfl
  · split
    · rfl
    · split <;> rfl

/-- A deferred reply carries no restart mark (R126). -/
@[simp] theorem State.offerDeferred_seg (o : CommandOutcome) : (s.offerDeferred o).seg g = s.seg g := by
  unfold State.offerDeferred
  split
  · rfl
  · dsimp only
    split
    · exact State.settleAddress_seg _ g _
    · split <;> rfl

end

/-! ### Exchanges -/

section
variable {s u : State}

/-- A failed attempt is retried or was the last (R102, R103). -/
theorem State.Moves.failAttempt (h : s.Moves u) {sg : Seg} {q r : ExchangeRecord} (waits : (u.seg sg).slot.Waits q)
    (attempt : r.attempt = q.attempt) (retries : r.retries = q.retries) : s.Moves (u.failAttempt sg r) := by
  unfold State.failAttempt
  split
  · rename_i more
    exact State.Moves.withSlot (h.quiet (by simp)) (u.countExchange_slot sg sg _) (.retries waits attempt retries more _)
  · rename_i last
    refine State.Moves.withSlot (h.quiet fun g => ?_) ?_ (.fails waits attempt retries last _) <;> simp

theorem State.Moves.attemptBadReply (h : s.Moves u) {sg : Seg} {r : ExchangeRecord} (here : (u.seg sg).slot = .receiving r) :
    s.Moves (u.attemptBadReply sg r) :=
  State.Moves.failAttempt (q := r) (h.quiet (by simp)) (.inl (by simpa using here)) rfl rfl

theorem State.Moves.attemptTimedOut (h : s.Moves u) {sg : Seg} {r : ExchangeRecord} {due : Nat}
    (here : (u.seg sg).slot = .awaiting r due) : s.Moves (u.attemptTimedOut sg r) :=
  State.Moves.failAttempt (q := r) (h.quiet (by simp)) (.inr ⟨due, by simpa using here⟩) rfl rfl

theorem State.Moves.exchangeReplied (h : s.Moves u) (sg : Seg) (r : ExchangeRecord) (b : Nat) :
    s.Moves (u.exchangeReplied sg r b) :=
  State.Moves.empty (h.quiet fun g => by simp [State.offerAnswerFrame_seg]) sg rfl

theorem State.Moves.reportArrival (h : s.Moves u) (p : Port) : s.Moves (u.reportArrival p) := by
  unfold State.reportArrival
  split
  · exact h
  · split
    · rename_i r due here
      exact h.withSlot here (.hears r due _)
    · exact h

theorem State.Moves.reportDiscardEnd (h : s.Moves u) (p : Port) : s.Moves (u.reportDiscardEnd p) := by
  unfold State.reportDiscardEnd
  split
  · exact h
  · split
    · rename_i here
      exact h.attemptBadReply here
    · exact h

theorem State.Moves.cancelExchange (h : s.Moves u) (sg : Seg) : s.Moves (u.cancelExchange sg) := by
  unfold State.cancelExchange
  split
  · exact h
  · split
    · exact h.empty sg rfl
    · exact State.Moves.empty (h.quiet (by simp)) sg rfl

/-! ### What follows within an event -/

theorem Slot.record_forRole (r : Role) : (Slot.forRole r).record = none := by
  cases r <;> rfl

/-- On a FIELD segment a taken request opens an exchange, and any other frame expects no answer (R92, R93). -/
theorem State.Moves.reportTake (h : s.Moves u) (p : Port) (d : Descriptor) : s.Moves (u.reportTake p d) := by
  unfold State.reportTake
  split
  · exact h
  · rename_i sg
    split
    · exact h
    · split
      · rename_i x _
        refine State.Moves.quiet (u := u.withSlot sg (.sendingExchange (u.openedRecord sg d x))) (h.withSlot rfl (.opens _ rfl rfl))
          fun g => ?_
        rw [State.openExchange, State.countExchange_slot]
        by_cases hg : g = sg
        · subst hg
          simp
        · simp [hg]
      all_goals exact h.empty sg rfl

/-- The arbiter's choice begins; a retry only from RESEND (R78, R106). -/
theorem State.Moves.begin (h : s.Moves u) {p : Port} {c : Choice} (chosen : u.choice p = some c) : s.Moves (u.begin p c) := by
  cases c with
  | retry r =>
    obtain ⟨sg, rfl, _, here⟩ := State.retryWaiting_some (State.choice_retry chosen)
    unfold State.begin State.startRetry
    dsimp only
    split
    · rename_i b e _
      cases e
      exact ((h.quiet (v := u.withPool (u.pool.addRef b)) (by simp)).withSlot here (.sendsAgain r)).quiet (by simp)
    · exact h
  | reply => exact h.quiet (by simp [State.begin])
  | alert => exact h.quiet (by simp [State.begin])
  | take d rest =>
    exact State.Moves.reportTake (u := (u.withQueue p rest).startSending p (.descriptor d)) (h.quiet (by simp)) p d

theorem State.startPort_moves (s : State) (p : Port) : s.Moves (s.startPort p) := by
  cases chosen : s.choice p with
  | none =>
    rw [State.startPort_none (.inr (.inr chosen))]
    exact .refl s
  | some c =>
    have starts : s.Moves (if s.startCondition p then s.begin p c else s.withTx p { (s.port p).tx with state := .waiting }) := by
      split
      · exact (State.Moves.refl s).begin chosen
      · exact (State.Moves.refl s).quiet (by simp)
    cases tx : (s.port p).tx.state with
    | off => rw [State.startPort_none (.inl tx)]; exact .refl s
    | sending cur since => rw [State.startPort_none (.inr (.inl ⟨cur, since, tx⟩))]; exact .refl s
    | idle => rw [State.startPort_choice (.inl tx) chosen]; exact starts
    | waiting => rw [State.startPort_choice (.inr tx) chosen]; exact starts

theorem State.Moves.slotForRole (h : s.Moves u) (p : Port) (r : Role) : s.Moves (u.slotForRole p r) := by
  cases p with
  | trunk => exact h
  | seg sg => exact h.empty sg (Slot.record_forRole r)

theorem State.applyPending_moves (s : State) (p : Port) : s.Moves (s.applyPending p) := by
  unfold State.applyPending
  split
  · exact .refl s
  · split
    · exact ((State.Moves.refl s).quiet (by simp)).slotForRole p _
    · exact .refl s

theorem State.Moves.followUp (h : s.Moves u) : s.Moves u.followUp :=
  (h.foldl State.startPort_moves _).foldl State.applyPending_moves _

theorem State.Moves.finish (h : s.Moves u) : s.Moves u.finish := (h.quiet (by simp)).followUp

/-! ### Resets -/

/-- A part none of whose slots holds a record comes from any other. -/
theorem State.Moves.of_empty (empty : ∀ sg, (u.seg sg).slot.record = none) : s.Moves u :=
  fun sg => .single (.empties _ (empty sg))

theorem State.coldWipe_moves (s : State) (k : ResetCause) : s.Moves (s.coldWipe k) :=
  .of_empty fun sg => by cases sg <;> rfl

theorem State.warmReset_moves (s : State) : s.Moves s.warmReset := by
  refine .of_empty fun sg => ?_
  have slot : (s.warmReset.seg sg).slot = ((Seg.list.foldl State.warmSlot (Port.list.foldl State.warmPort s)).seg sg).slot := rfl
  rw [slot, State.warmSlots_slot]
  exact Slot.record_forRole _

theorem State.Moves.restart (h : s.Moves u) (f : RestartForm) : s.Moves (u.restart f) := by
  cases f with
  | cold => exact h.trans (u.coldWipe_moves .cold)
  | warm => exact h.trans u.warmReset_moves

theorem State.leaveReset_moves (s : State) : s.Moves s.leaveReset := by
  unfold State.leaveReset
  split <;> exact .refl s

/-! ### Replies -/

theorem State.Moves.settleReply (h : s.Moves u) (r : Reply) : s.Moves (u.settleReply r) := by
  unfold State.settleReply
  split
  · exact h.quiet (by simp)
  · exact (h.quiet (by simp)).restart _

theorem State.Moves.answer (h : s.Moves u) (rq : Request) (o : CommandOutcome) (body : List Byte) (f : Option RestartForm) :
    s.Moves (u.answer rq o body f) := by
  have numbered : s.Moves u.numberReply := h
  unfold State.answer State.offerReply
  split
  · exact numbered.settleReply _
  · split <;> exact numbered

theorem State.Moves.answerPlain (h : s.Moves u) (rq : Request) (o : CommandOutcome) : s.Moves (u.answerPlain rq o) :=
  h.answer rq o [] none

/-! ### The lines -/

theorem State.Moves.routeClean (h : s.Moves u) (p : Port) (b : Nat) : s.Moves (u.routeClean p b) := by
  unfold State.routeClean
  split
  · exact h.quiet (by simp)
  · split
    · rename_i here
      unfold State.judgeAnswer
      split
      · exact h.exchangeReplied _ _ _
      · exact State.Moves.attemptBadReply (u := u.dropRef b) h here
    · unfold State.judgeLate
      split <;> exact h.quiet (by simp)
    · exact h.quiet (by simp)

theorem State.Moves.dropOrFailAttempt (h : s.Moves u) (p : Port) (b : Nat) : s.Moves (u.dropOrFailAttempt p b) := by
  unfold State.dropOrFailAttempt
  split
  · exact h
  · split
    · rename_i here
      exact State.Moves.attemptBadReply (u := u.dropRef b) h here
    · exact h

theorem State.Moves.complete (h : s.Moves u) (p : Port) (f : Assembly) : s.Moves (u.complete p f) := by
  have counted : s.Moves ((u.withPool (u.pool.setLength f.buffer f.length)).count p .rxframes) := h
  unfold State.complete
  dsimp only
  split
  · exact counted.routeClean p _
  · exact State.Moves.dropOrFailAttempt (counted.quiet (by simp)) p _

theorem State.arrive_moves (s : State) (p : Port) : s.Moves (s.arrive p) := by
  unfold State.arrive
  dsimp only
  split
  · exact .refl s
  · split
    · exact .refl s
    · exact .refl s
    · unfold State.arriveIdle
      dsimp only
      split
      · exact State.Moves.reportArrival ((State.Moves.refl s).quiet (by simp)) p
      · exact (State.Moves.reportArrival ((State.Moves.refl s).quiet (by simp)) p).finish
    all_goals exact .refl s

theorem State.declareBreak_moves (s : State) (p : Port) : s.Moves (s.declareBreak p) := by
  have begun : s.Moves s := .refl s
  unfold State.declareBreak
  split
  · exact begun
  · split
    · exact begun
    · exact begun
    · exact begun
    · exact (State.Moves.complete (begun.quiet (by simp)) p _).finish
    · exact (State.Moves.complete (begun.quiet (by simp)) p _).finish
    · exact begun
    · exact begun

theorem State.gapExpires_moves (s : State) (p : Port) : s.Moves (s.gapExpires p) := by
  have idle : s.Moves (s.withRx p (Receiver.fresh .idle)) := .refl s
  unfold State.gapExpires
  split
  · split
    · exact .refl s
    · exact .refl s
    · exact .refl s
    · exact (idle.complete p _).finish
    · exact (idle.complete p _).finish
    · exact (idle.reportDiscardEnd p).finish
    · exact idle.finish
  · exact .refl s

/-! ### Guard, send end and timers -/

theorem State.guardExpires_moves (s : State) (sg : Seg) (edgeInside : Bool) : s.Moves (s.guardExpires sg edgeInside) := by
  have begun : s.Moves s := .refl s
  unfold State.guardExpires
  split
  · exact begun
  · exact begun
  all_goals
    split
    · exact begun
    · exact State.Moves.followUp (begun.quiet (by simp))

theorem State.Moves.slotSettles (h : s.Moves u) (p : Port) : s.Moves (u.slotSettles p) := by
  unfold State.slotSettles
  split
  · exact h
  · split
    · exact h.empty _ rfl
    · exact h

/-- A sent attempt awaits its answer (R94). -/
theorem State.Moves.attemptSent (h : s.Moves u) {p : Port} {sg : Seg} {r : ExchangeRecord} (on : u.attemptOn p = some (sg, r)) :
    s.Moves (u.slotAwaits sg r) := h.withSlot (State.attemptOn_some on) (.awaits r _ _)

theorem State.Moves.finishCurrent (h : s.Moves u) (p : Port) (cur : Current) : s.Moves (u.finishCurrent p cur) := by
  cases cur with
  | descriptor d =>
    unfold State.finishCurrent State.finishDescriptor
    dsimp only
    split
    · split
      · rename_i on
        exact h.attemptSent on
      · exact h
    all_goals exact State.Moves.slotSettles (u := u.dropRef d.buffer) h p
  | retry b =>
    unfold State.finishCurrent State.finishRetry
    dsimp only
    split
    · rename_i on
      exact State.Moves.attemptSent (u := u.dropRef b) h on
    · exact h
  | reply =>
    unfold State.finishCurrent State.finishReply
    dsimp only
    split
    · exact h
    · split
      · exact State.Moves.restart (u := u.withLane p none) h _
      · exact h.quiet (by simp)
  | alert =>
    refine h.quiet fun g => ?_
    exact State.slot_of_ledger u.finishAlert_ledger g

theorem State.sendEnds_moves (s : State) (p : Port) : s.Moves (s.sendEnds p) := by
  unfold State.sendEnds
  split
  · exact .refl s
  · exact .refl s
  · exact .refl s
  · exact (State.Moves.finishCurrent ((State.Moves.refl s).quiet (by simp)) p _).followUp

theorem State.responseExpires_moves (s : State) (sg : Seg) : s.Moves (s.responseExpires sg) := by
  unfold State.responseExpires
  split
  · rename_i here
    exact ((State.Moves.refl s).attemptTimedOut here).finish
  · exact .refl s

theorem State.lapseExpires_moves (s : State) (sg : Seg) : s.Moves (s.lapseExpires sg) := by
  unfold State.lapseExpires
  split
  · rename_i r due here
    refine State.Moves.followUp ?_
    cases pending : r.retryPending with
    | true => exact (State.Moves.refl s).withSlot here (.resends due pending)
    | false => exact (State.Moves.refl s).empty sg rfl
  · exact .refl s

theorem State.settleExpires_moves (s : State) (sg : Seg) : s.Moves (s.settleExpires sg) := by
  unfold State.settleExpires
  split
  · exact ((State.Moves.refl s).empty sg rfl).followUp
  · exact .refl s

theorem State.repeatExpires_moves (s : State) : s.Moves s.repeatExpires := by
  unfold State.repeatExpires
  split
  · split
    · exact State.Moves.followUp ((State.Moves.refl s).quiet (by simp))
    · exact .refl s
  · exact .refl s

/-! ### The store's completions -/

theorem State.commitCompletes_moves (s : State) (wrong : List (Nat × Byte)) : s.Moves (s.commitCompletes wrong) := by
  have ended (o : CommandOutcome) (j : CommitJob) : s.Moves ((s.endCommit j wrong).offerDeferred o) :=
    State.Moves.quiet (u := s.endCommit j wrong) (.refl s) (by simp)
  unfold State.commitCompletes
  split
  · split
    · exact (ended _ _).followUp
    · exact State.Moves.finish ((ended _ _).quiet fun g => congrArg SegState.slot (State.raiseCause_seg _ g .store))
  all_goals exact .refl s

theorem State.loadCompletes_moves (s : State) : s.Moves s.loadCompletes := by
  have applied (u : State) (pr : Profile) (rules : List (Option Entry)) :
      s.Moves u → s.Moves (((u.offerDeferred .done).withRules rules).placeRecords pr.ports) := fun h =>
    h.quiet fun g => (State.slot_of_ledger (State.placeRecords_ledger _ _) g).trans (by simp)
  unfold State.loadCompletes
  split
  · exact State.Moves.followUp (applied _ _ _ (.refl s))
  all_goals exact .refl s

theorem State.startupCompletes_moves (s : State) : s.Moves s.startupCompletes := by
  have up (pr : Profile) (u : State) (p : Port) : u.Moves (u.bringUp p (pr.ports.get p)) :=
    ((State.Moves.refl u).quiet (by simp)).slotForRole p _
  have idle (u : State) : u.Moves (u.withStore { u.store with state := .idle }) := .refl u
  have applied (pr : Profile) : s.Moves (s.applyStartup pr) := by
    refine (State.Moves.foldl (up pr) (State.Moves.quiet (.refl s) ?_) Port.list).trans (idle _)
    simp
  unfold State.startupCompletes
  split
  · exact (applied _).followUp
  all_goals exact .refl s

/-! ### Management -/

theorem State.enablePort_moves (s : State) (p : Port) : s.Moves (s.enablePort p) := by
  unfold State.enablePort
  dsimp only
  split
  · exact .refl s
  · exact ((State.Moves.refl s).quiet (by simp)).slotForRole p _

theorem State.disableSegment_moves (s : State) (sg : Seg) : s.Moves (s.disableSegment sg) := by
  have flushed (u : State) (p : Port) (g : Seg) : (u.flushQueue p).seg g = u.seg g := by simp [State.flushQueue]
  have stopped (u : State) (r : Option Reply) (p : Port) (g : Seg) :
      (((u.settleLost r).loseDeferred p).seg g).slot = (u.seg g).slot :=
    State.slot_of_ledger ((State.loseDeferred_ledger _ p).trans (u.settleLost_ledger r)) g
  unfold State.disableSegment
  split
  · refine State.Moves.cancelExchange ((State.Moves.refl s).quiet fun g => ?_) sg
    rw [stopped, flushed, State.abortSending_seg, State.receiverOff, State.dropRef?_seg, State.withPort_seg]
  · exact .refl s

theorem State.Moves.restartIf (h : s.Moves u) (f : Option RestartForm) : s.Moves (u.restartIf f) := by
  cases f with
  | none => exact h
  | some f => exact h.restart f

/-- Counters set to 0 leave the slots alone (R139). -/
theorem State.zeroPort_moves (s : State) (p : Port) : s.Moves (s.zeroPort p) :=
  (State.Moves.refl s).quiet (State.slot_of_ledger (s.zeroPort_ledger p))

theorem State.checked_moves {α : Type} {rq : Request} {k : Permit} {read : List Byte → Option α} {act : α → State}
    (ha : ∀ x, s.Moves (act x)) : s.Moves (s.checked rq k read act) := by
  unfold State.checked
  split
  · split
    · exact (State.Moves.refl s).answerPlain rq _
    · exact ha _
  · exact (State.Moves.refl s).answerPlain rq _

theorem State.takeCommand_moves (s : State) (i : Instr) {f : Request → State → State} (hf : ∀ rq u, State.Moves u (f rq u)) :
    s.Moves (s.takeCommand i f) := by
  unfold State.takeCommand
  split
  · split
    · exact .refl s
    · rename_i e _ _
      have taken : s.Moves (s.afterTake e) := .refl s
      split
      · exact State.Moves.followUp (u := (s.afterTake e).count e.source .agentbad) taken
      · exact (taken.trans (hf _ _)).followUp
  · exact .refl s

theorem State.whenClocked_moves {f : State → State} (hf : s.Moves (f s)) : s.Moves (s.whenClocked f) := by
  unfold State.whenClocked
  split
  · exact hf
  · exact .refl s

/-- A command whose own effects leave the slots alone, and which is then answered. -/
theorem State.checked_answered_moves {α : Type} {rq : Request} {k : Permit} {read : List Byte → Option α} {o : α → CommandOutcome}
    {body : α → List Byte} {f : Option RestartForm} {act : α → State} (ha : ∀ x g, ((act x).seg g).slot = (s.seg g).slot) :
    s.Moves (s.checked rq k read fun x => (act x).answer rq (o x) (body x) f) :=
  State.checked_moves fun x => ((State.Moves.refl s).quiet (ha x)).answer rq _ _ _

end

end Sys2Proof.Machine
end

section
/-! SUPPORT. The arrows over a whole command and a whole step. -/

namespace Sys2Proof.Machine
section
variable {s t : State}

/-- The resets from outside, the supply and the clock empty every slot or leave it alone. -/
theorem exec_moves_outside {c : Instr} (outside : isOutside c = true) (hc : exec c s = .next t) : s.Moves t := by
  have same : s.Moves s := .refl s
  cases c <;> simp only [isOutside, Bool.false_eq_true] at outside
  all_goals injection hc with hc; subst hc
  case powerReset => exact s.coldWipe_moves .power
  case supplyReset =>
    unfold State.supplyFalls
    split
    · exact s.coldWipe_moves .supply
    · exact s.coldWipe_moves .supply
    · exact same
    · exact same
  case supplyRelease =>
    unfold State.supplyReleases
    split
    · exact State.leaveReset_moves { s with supply := .ok }
    · exact State.leaveReset_moves { s with supply := .ok }
    · exact same
    · exact same
  case pinReset =>
    unfold State.pinFalls
    split
    · exact s.coldWipe_moves .pin
    · exact s.coldWipe_moves .pin
    · exact s.coldWipe_moves .pin
    · exact same
  case pinResetEnd =>
    unfold State.pinRises
    split
    · exact State.leaveReset_moves { s with pinHeld := false }
    · exact same
  case vddFallsBelow1V2 => exact s.coldWipe_moves .power
  case clkinStops => exact same
  case clkinReturns => exact same

/-- Every command takes each slot along arrows. -/
theorem exec_moves {c : Instr} (hc : exec c s = .next t) : s.Moves t := by
  cases outside : isOutside c with
  | true => exact exec_moves_outside outside hc
  | false =>
    cases c <;> simp only [isOutside, Bool.true_eq_false] at outside
    case commitCompletion w =>
      simp only [exec, execCommitCompletion] at hc
      split at hc
      · injection hc with hc; subst hc; exact State.whenClocked_moves (s.commitCompletes_moves w)
      · nomatch hc
    all_goals injection hc with hc; subst hc
    case characterArrival p => exact State.whenClocked_moves (s.arrive_moves p)
    case characterReceived p d a b => exact State.whenClocked_moves ((State.Moves.refl s).quiet (by simp))
    case heldCharacterReleased p => exact State.whenClocked_moves ((State.Moves.refl s).quiet (by simp))
    case lineReturnsHighAfterBreak p => exact State.whenClocked_moves ((State.Moves.refl s).quiet (by simp))
    case breakDeclared p => exact State.whenClocked_moves (s.declareBreak_moves p)
    case gapTimerExpiry p => exact State.whenClocked_moves (s.gapExpires_moves p)
    case turnaroundGuardExpiry sg e => exact State.whenClocked_moves (s.guardExpires_moves sg e)
    case sendEnd p => exact State.whenClocked_moves (s.sendEnds_moves p)
    case responseTimerExpiry sg => exact State.whenClocked_moves (s.responseExpires_moves sg)
    case lapseTimerExpiry sg => exact State.whenClocked_moves (s.lapseExpires_moves sg)
    case settleTimerExpiry sg => exact State.whenClocked_moves (s.settleExpires_moves sg)
    case repeatTimerExpiry => exact State.whenClocked_moves s.repeatExpires_moves
    case loadCompletion => exact State.whenClocked_moves s.loadCompletes_moves
    case startupLoadCompletion => exact State.whenClocked_moves s.startupCompletes_moves
    case unknownCommand => exact s.takeCommand_moves _ fun rq u => (State.Moves.refl u).answerPlain rq _
    case setPort =>
      exact s.takeCommand_moves _ fun rq u => State.checked_moves fun _ =>
        ((State.Moves.refl u).answerPlain rq _).quiet fun _ => rfl
    case enablePort =>
      exact s.takeCommand_moves _ fun rq u => State.checked_moves fun p => (u.enablePort_moves p).answerPlain rq _
    case disablePort =>
      exact s.takeCommand_moves _ fun rq u => State.checked_moves fun sg =>
        ((u.disableSegment_moves sg).answerPlain rq _).restartIf _
    case readRule =>
      refine s.takeCommand_moves _ fun rq u => State.checked_moves fun i => ?_
      split <;> exact (State.Moves.refl u).answer rq _ _ _
    case deleteRule =>
      refine s.takeCommand_moves _ fun rq u => State.checked_moves fun i => ?_
      split
      · exact (State.Moves.refl u).answerPlain rq _
      · exact State.Moves.answerPlain (u := u.withRules (u.rules.set i none)) (.refl u) rq _
    case clearCountersPort =>
      exact s.takeCommand_moves _ fun rq u => State.checked_moves fun p =>
        State.Moves.answerPlain (u := (u.zeroPort p).clearWatermark) (u.zeroPort_moves p) rq _
    case clearCountersAll =>
      exact s.takeCommand_moves _ fun rq u => State.checked_moves fun _ =>
        State.Moves.answerPlain (u := (Port.list.foldl State.zeroPort u).clearWatermark)
          ((State.Moves.refl u).foldl State.zeroPort_moves Port.list) rq _
    case takeSnapshot =>
      refine s.takeCommand_moves _ fun rq u => State.checked_moves fun p => ?_
      split
      · exact (State.Moves.refl u).answerPlain rq _
      · exact State.Moves.answer (u := u.withSnapshot p none) (.refl u) rq _ _ _
    case ackAlert =>
      refine s.takeCommand_moves _ fun rq u => State.checked_moves fun q => ?_
      split
      · exact (State.Moves.refl u).answerPlain rq _
      · split
        · exact State.Moves.answerPlain ((State.Moves.refl u).quiet (State.slot_of_ledger u.acknowledge_ledger)) rq _
        · exact (State.Moves.refl u).answerPlain rq _
    case commit => exact s.takeCommand_moves _ fun rq u => State.checked_moves fun _ => .refl u
    case load =>
      refine s.takeCommand_moves _ fun rq u => State.checked_moves fun _ => ?_
      split
      · exact (State.Moves.refl u).answerPlain rq _
      · exact .refl u
    all_goals exact s.takeCommand_moves _ fun rq u => State.checked_answered_moves fun _ _ => rfl

theorem step_moves (h : step s = .next t) : s.Moves t := by
  obtain ⟨c, l, n, hc⟩ | rfl := step_next h
  · exact exec_moves (s := { s with pending := l, freeCount := n }) hc
  · obtain ⟨n, m, b, e⟩ := s.tick_moves_time
    rw [e]
    exact .refl s

end

/-- Settles O57: whatever a step does to a slot is a path of arrows, and each arrow keeps the law of R108. -/
theorem stepKeepsTheAttemptLaw : Obligations.StepKeepsTheAttemptLaw := by
  intro s t h hs
  rw [State.attemptsOk_iff] at h ⊢
  exact (step_moves hs).tries h

end Sys2Proof.Machine
end

section
/-! SUPPORT. The expiries of a segment's timers: the response, lapse and settle timers of the slot (R93, R96, R105) and the
turnaround guard (R12). -/

namespace Sys2Proof.Machine

section
variable {s : State} {sg : Seg}

/-! ### What a running clock answers -/

theorem exec_responseTimerExpiry (h : s.clockRunning = true) (sg : Seg) :
    exec (.responseTimerExpiry sg) s = .next (s.responseExpires sg) :=
  congrArg Host.Outcome.next (State.whenClocked_running h _)

theorem exec_lapseTimerExpiry (h : s.clockRunning = true) (sg : Seg) :
    exec (.lapseTimerExpiry sg) s = .next (s.lapseExpires sg) :=
  congrArg Host.Outcome.next (State.whenClocked_running h _)

theorem exec_settleTimerExpiry (h : s.clockRunning = true) (sg : Seg) :
    exec (.settleTimerExpiry sg) s = .next (s.settleExpires sg) :=
  congrArg Host.Outcome.next (State.whenClocked_running h _)

theorem exec_turnaroundGuardExpiry (h : s.clockRunning = true) (sg : Seg) (edgeInside : Bool) :
    exec (.turnaroundGuardExpiry sg edgeInside) s = .next (s.guardExpires sg edgeInside) :=
  congrArg Host.Outcome.next (State.whenClocked_running h _)

/-! ### The slot's timers -/

theorem State.responseExpires_awaiting {r : ExchangeRecord} {due : Nat} (h : (s.seg sg).slot = .awaiting r due) :
    s.responseExpires sg = (s.attemptTimedOut sg r).finish := by
  rw [State.responseExpires, h]

theorem State.responseExpires_ignored (h : ∀ r due, (s.seg sg).slot ≠ .awaiting r due) : s.responseExpires sg = s := by
  unfold State.responseExpires
  split
  · rename_i r due slot
    exact absurd slot (h r due)
  · rfl

theorem State.lapseExpires_lapsed {r : ExchangeRecord} {due : Nat} (h : (s.seg sg).slot = .lapsed r due) :
    s.lapseExpires sg = (s.withSlot sg (if r.retryPending then .resend r else .free)).followUp := by
  rw [State.lapseExpires, h]

theorem State.lapseExpires_ignored (h : ∀ r due, (s.seg sg).slot ≠ .lapsed r due) : s.lapseExpires sg = s := by
  unfold State.lapseExpires
  split
  · rename_i r due slot
    exact absurd slot (h r due)
  · rfl

theorem State.settleExpires_settling {due : Nat} (h : (s.seg sg).slot = .settling due) :
    s.settleExpires sg = (s.withSlot sg .free).followUp := by
  rw [State.settleExpires, h]

theorem State.settleExpires_ignored (h : ∀ due, (s.seg sg).slot ≠ .settling due) : s.settleExpires sg = s := by
  unfold State.settleExpires
  split
  · rename_i due slot
    exact absurd slot (h due)
  · rfl

/-! ### The turnaround guard -/

/-- A receiver that is MUTED or OFF does not watch the line (R8, R12). -/
theorem RxState.watches_eq_false {st : RxState} : st.watches = false ↔ st = .muted ∨ st = .off := by
  cases st <;> simp [RxState.watches]

/-- A guard that runs on a port that is not sending is held for a character inside it, else it has run out (R12, R16). -/
theorem State.guardExpires_running {t : Nat} {edgeInside : Bool} (guard : (s.port (.seg sg)).guardFrom = some t)
    (silent : ∀ cur since, (s.port (.seg sg)).tx.state ≠ .sending cur since) :
    s.guardExpires sg edgeInside =
      if edgeInside && (s.port (.seg sg)).rx.state.watches then s.guardYields sg t else s.guardRunsOut sg := by
  unfold State.guardExpires
  rw [guard]
  cases tx : (s.port (.seg sg)).tx.state with
  | sending cur since => exact absurd tx (silent cur since)
  | off => rfl
  | idle => rfl
  | waiting => rfl

/-- Without a guard, or while the port sends, there is no expiry (log 3). -/
theorem State.guardExpires_ignored {edgeInside : Bool}
    (h : (s.port (.seg sg)).guardFrom = none ∨ ∃ cur since, (s.port (.seg sg)).tx.state = .sending cur since) :
    s.guardExpires sg edgeInside = s := by
  unfold State.guardExpires
  rcases h with none | ⟨cur, since, sending⟩
  · rw [none]
  · rw [sending]
    cases (s.port (.seg sg)).guardFrom <;> rfl

end

/-- Settles O24: in AWAITING the attempt is one that failed by its timeout; elsewhere the expiry is ignored. -/
theorem responseExpiryFailsTheAttempt : Obligations.ResponseExpiryFailsTheAttempt := by
  intro s sg clock
  rw [exec_responseTimerExpiry clock]
  refine ⟨fun r due b slot request => ?_, fun other => ?_⟩
  · rw [State.responseExpires_awaiting slot]
    exact State.answers_finish _ _
      (State.failAttempt_formAlert s sg { r with remaining := some 0, lastResult := .timeout } .timeouts request [])
  · rw [State.responseExpires_ignored other]

/-- Settles O26: each timer by the state it runs in; the guard further by whether the receiver watches the line. -/
theorem segmentTimersExpire : Obligations.SegmentTimersExpire := by
  refine ⟨fun s sg clock => ?_, fun s sg edgeInside clock => ?_⟩
  · rw [exec_lapseTimerExpiry clock, exec_settleTimerExpiry clock]
    refine ⟨fun r due slot => ?_, fun other => ?_, fun due slot => ?_, fun other => ?_⟩
    · rw [State.lapseExpires_lapsed slot]
      exact ⟨_, rfl, State.followUp_startsFrom _, rfl⟩
    · rw [State.lapseExpires_ignored other]
    · rw [State.settleExpires_settling slot]
      exact ⟨_, rfl, State.followUp_startsFrom _, rfl⟩
    · rw [State.settleExpires_ignored other]
  · rw [exec_turnaroundGuardExpiry clock]
    refine ⟨fun t guard silent => ?_, fun idle => ?_⟩
    · rw [State.guardExpires_running guard silent]
      refine ⟨fun ended => ?_, fun edge notMuted notOff => ?_⟩
      · have unheld : (edgeInside && (s.port (.seg sg)).rx.state.watches) = false := by
          rcases ended with outside | blind
          · rw [outside, Bool.false_and]
          · rw [RxState.watches_eq_false.mpr blind, Bool.and_false]
        rw [unheld, if_neg Bool.false_ne_true]
        exact ⟨_, rfl, State.followUp_startsFrom _, rfl⟩
      · have watches : (s.port (.seg sg)).rx.state.watches = true := by
          refine Bool.of_not_eq_false fun blind => ?_
          rcases RxState.watches_eq_false.mp blind with muted | off
          · exact notMuted muted
          · exact notOff off
        rw [edge, watches, Bool.true_and, if_pos rfl]
        rfl
    · rw [State.guardExpires_ignored idle]

end Sys2Proof.Machine
end

section
/-! SUPPORT. Answers at the gap timer's expiry: which of the slot's consumers a completed frame goes to (R98, R100, R104). -/

namespace Sys2Proof.Machine

section
variable {s : State} {sg : Seg} {f : Assembly} {r : ExchangeRecord}

theorem State.routeClean_receiving (h : (s.seg sg).slot = .receiving r) (b : Nat) :
    s.routeClean (.seg sg) b = s.judgeAnswer sg r b := by
  simp only [State.routeClean, h]

theorem State.routeClean_lapsed {due : Nat} (h : (s.seg sg).slot = .lapsed r due) (b : Nat) :
    s.routeClean (.seg sg) b = s.judgeLate sg r b := by
  simp only [State.routeClean, h]

/-- A clean frame from the record's station is the answer (R98). -/
theorem State.judgeAnswer_completed_answer (h : s.Completing (.seg sg) f) (station : (s.assembled f).head? = some r.station) :
    (s.completed (.seg sg) f).judgeAnswer sg r f.buffer = (s.completed (.seg sg) f).exchangeReplied sg r f.buffer := by
  rw [State.judgeAnswer, h.completed_frame, if_pos station]

/-- A clean frame from another station is a bad answer (R100). -/
theorem State.judgeAnswer_completed_bad (h : s.Completing (.seg sg) f) (station : (s.assembled f).head? ≠ some r.station) :
    (s.completed (.seg sg) f).judgeAnswer sg r f.buffer = ((s.completed (.seg sg) f).dropRef f.buffer).attemptBadReply sg r := by
  rw [State.judgeAnswer, h.completed_frame, if_neg station]

/-- In LAPSED a clean frame from the record's station is late (R104). -/
theorem State.judgeLate_completed_late (h : s.Completing (.seg sg) f) (station : (s.assembled f).head? = some r.station) :
    (s.completed (.seg sg) f).judgeLate sg r f.buffer = ((s.completed (.seg sg) f).countExchange sg .late).dropRef f.buffer := by
  rw [State.judgeLate, h.completed_frame, if_pos station]

end

/-- Settles O23: both frames lose their buffer and fail the attempt; the errored one raises its snapshot's cause beside it. -/
theorem badAnswerFailsTheAttempt : Obligations.BadAnswerFailsTheAttempt := by
  rintro s _ _ sg f r b completing slot request rfl rfl
  rw [exec_gapTimerExpiry completing.clock, State.gapExpires_completing completing]
  refine ⟨fun clean station => ?_, fun errors => ?_⟩
  · have still : ((s.completed (.seg sg) f).seg sg).slot = .receiving r := slot
    rw [State.complete_clean completing clean, State.routeClean_receiving still, State.judgeAnswer_completed_bad completing station]
    exact State.answers_finish _ _ (State.failAttempt_formAlert _ sg { r with lastResult := .badReply } .badreplies request [])
  · have still : ((s.errored (.seg sg) (Receiver.fresh .idle) f.buffer f.length (s.errorsOf (.seg sg) f) f.endStamp).seg sg).slot =
        .receiving r := slot
    rw [State.complete_errored completing errors]
    exact State.answers_finish _ _ (State.dropOrFailAttempt_receiving still request _ _)

end Sys2Proof.Machine
end

section
/-! SUPPORT. The answer and the late answer: what the outcome REPLIED does with the answer, by what the origin's queue says to it
(R98, R99), and the state of a port after a frame has completed on another or on itself. -/

namespace Sys2Proof.Machine

section
variable {s : State}

/-! ### What a completed frame leaves of a port -/

/-- A completed frame changes no port's use, settings, transmitter or queue (R28). -/
theorem State.completed_port (s : State) (p : Port) (f : Assembly) (q : Port) :
    ((s.completed p f).port q).enabled = (s.port q).enabled ∧ ((s.completed p f).port q).settings = (s.port q).settings ∧
      ((s.completed p f).port q).tx = (s.port q).tx ∧ ((s.completed p f).port q).queue = (s.port q).queue := by
  by_cases here : q = p
  · subst here
    simp [State.completed, State.port]
  · simp [State.completed, State.port, here]

theorem State.completed_accepts (p : Port) (f : Assembly) (q : Port) : (s.completed p f).accepts q ↔ s.accepts q := by
  obtain ⟨enabled, _, tx, queue⟩ := s.completed_port p f q
  rw [State.accepts, enabled, tx, queue]

theorem State.completed_isOff (p : Port) (f : Assembly) (q : Port) :
    ((s.completed p f).port q).isOff = (s.port q).isOff := by
  obtain ⟨enabled, _, tx, _⟩ := s.completed_port p f q
  rw [PortState.isOff, PortState.isOff, enabled, tx]

/-! ### The outcome REPLIED -/

/-- The slot's part of the outcome REPLIED: the counter, and the slot FREE (R98). -/
def State.slotReplied (s : State) (sg : Seg) : State :=
  { s with segs := s.segs.set sg { s.seg sg with slot := .free, counters := (s.seg sg).counters.bump .replied } }

variable {sg : Seg} {r : ExchangeRecord} {b : Nat}

theorem State.countExchange_replied_free : (s.countExchange sg .replied).withSlot sg .free = s.slotReplied sg := by
  simp [State.countExchange, State.withSlot, State.withSeg, State.seg, State.slotReplied]

/-- The offer of an answer neither reads nor changes the slot (R98). -/
theorem State.offerAnswerFrame_withSlot (x : Slot) (c : Nat) :
    (s.withSlot sg x).offerAnswerFrame sg r c = (s.offerAnswerFrame sg r c).withSlot sg x := by
  have offer : (s.withSlot sg x).offerAnswer r.origin = s.offerAnswer r.origin := rfl
  unfold State.offerAnswerFrame
  rw [offer]
  cases s.offerAnswer r.origin with
  | accepted => rfl
  | off => rfl
  | full => rfl

/-- The outcome REPLIED: the slot's part, then the offer of the answer, then the request's release (R98). -/
theorem State.exchangeReplied_eq (request : r.buffer = some b) (c : Nat) :
    s.exchangeReplied sg r c = ((s.slotReplied sg).offerAnswerFrame sg r c).dropRef b := by
  rw [State.exchangeReplied, request, ← State.countExchange_replied_free, State.offerAnswerFrame_withSlot]
  rfl

theorem State.offerAnswerFrame_accepted (accepts : s.accepts r.origin) (c : Nat) :
    s.offerAnswerFrame sg r c = s.enqueue r.origin c .reply r.priority := by
  rw [State.offerAnswerFrame, State.offerAnswer_eq_accepted.mpr accepts]

theorem State.offerAnswerFrame_off (off : (s.port r.origin).isOff = true) (c : Nat) :
    s.offerAnswerFrame sg r c = (s.count (.seg sg) .orphan).dropRef c := by
  rw [State.offerAnswerFrame, State.offerAnswer_off off]

theorem State.offerAnswerFrame_full (on : (s.port r.origin).isOff = false)
    (full : Config.queueLimit ≤ (s.port r.origin).queue.depth) (c : Nat) :
    s.offerAnswerFrame sg r c = (s.count r.origin .qfull).dropRef c := by
  rw [State.offerAnswerFrame, State.offerAnswer_full on full]

end

/-- Settles O22: the answer ends the exchange as the origin's queue decides; the late answer is counted and released. -/
theorem answerEndsTheExchangeOrIsLate : Obligations.AnswerEndsTheExchangeOrIsLate := by
  refine ⟨?_, ?_⟩
  · rintro s _ sg f r b completing clean slot request station rfl
    have still : ((s.completed (.seg sg) f).seg sg).slot = .receiving r := slot
    have origin : ((s.completed (.seg sg) f).slotReplied sg).port r.origin = (s.completed (.seg sg) f).port r.origin := rfl
    rw [exec_gapTimerExpiry completing.clock, State.gapExpires_completing completing, State.complete_clean completing clean,
      State.routeClean_receiving still, State.judgeAnswer_completed_answer completing station, State.exchangeReplied_eq request]
    refine ⟨_, rfl, State.followUp_startsFrom _, fun accepts => ?_, fun off => ?_, fun on full => ?_⟩
    · rw [State.offerAnswerFrame_accepted (s := (s.completed (.seg sg) f).slotReplied sg)
        ((State.completed_accepts _ f _).mpr accepts), ← State.alerted_nil]
      rfl
    · rw [State.offerAnswerFrame_off (s := (s.completed (.seg sg) f).slotReplied sg)
        ((State.completed_isOff _ f _).trans off), ← State.alerted_nil]
      rfl
    · obtain ⟨_, _, _, queue⟩ := s.completed_port (.seg sg) f r.origin
      rw [State.offerAnswerFrame_full (s := (s.completed (.seg sg) f).slotReplied sg)
        ((State.completed_isOff _ f _).trans on) (by rw [origin, queue]; exact full), ← State.alerted_nil]
      rfl
  · rintro s _ sg f r due completing clean slot station rfl
    have still : ((s.completed (.seg sg) f).seg sg).slot = .lapsed r due := slot
    rw [exec_gapTimerExpiry completing.clock, State.gapExpires_completing completing, State.complete_clean completing clean,
      State.routeClean_lapsed still, State.judgeLate_completed_late completing station]
    exact State.answers_finish _ _ (State.alerted_nil _).symm

end Sys2Proof.Machine
end

section
/-! SUPPORT. The notice (R113, R114): a notice that its origin refuses gives its buffer back. -/

namespace Sys2Proof.Machine

theorem Pool.reserve_cons {m : Pool} {b : Nat} {rest : List Nat} (free : m.free = b :: rest) :
    m.reserve = some (b, { m with free := rest, refs := m.refs.set b 1, watermark := min m.watermark rest.length }) := by
  rw [Pool.reserve, free]

/-- A buffer just reserved, dropped again, is the tail of the free list and has no holder (R37). -/
theorem Pool.drop_reserved {m : Pool} {b : Nat} (h : b < m.refs.length) :
    Pool.drop { m with refs := m.refs.set b 1 } b = { m with free := m.free ++ [b], refs := m.refs.set b 0 } := by
  rw [Pool.drop_held (n := 0) (Pool.refCount_set_self h 1), if_pos rfl, List.set_set]

/-- Settles O25: the reservation first, then the origin's answer to the offer. -/
theorem noticeIsBuiltOrLost : Obligations.NoticeIsBuiltOrLost := by
  refine ⟨fun s n => ⟨rfl, rfl⟩, ?_⟩
  rintro s n _ rfl
  refine ⟨fun none => State.buildNotice_noBuffer (Pool.reserve_none.mpr none), ?_⟩
  rintro b rest _ free inside whole rfl
  have reserved := Pool.reserve_cons free
  refine ⟨fun accepts => ?_, fun refused => ?_⟩
  · rw [State.buildNotice_accepted reserved (State.offerAnswer_eq_accepted.mpr accepts)]
    rfl
  · have held : b < s.pool.refs.length := by rwa [whole]
    rw [State.buildNotice_refused reserved (mt State.offerAnswer_eq_accepted.mp refused)]
    exact congrArg (fun m => (s.withPool m).count n.origin .noticelost)
      (Pool.drop_reserved
        (m := { s.pool with
          free := rest
          lens := s.pool.lens.set b 11
          ram := s.pool.ram.writeBytes (256 * b) (noticeFrame s.agent.settings.address n)
          watermark := min s.pool.watermark rest.length })
        held)

end Sys2Proof.Machine
end

section
/-! SUPPORT. The taking of a command (R121 to R125): every row of the command table is taken in the same way and carried out by
its own meaning; the checks of R122 before it, and the reply that it offers, written as the statements write them. -/

namespace Sys2Proof.Machine

/-! ### The rows of the command table -/

/-- What the row `i` does once its command has been taken; nothing for an event that is no row of the table. -/
def carriedOut (i : Instr) : Request → State → State :=
  match i with
  | .identify => doIdentify
  | .unknownCommand => doUnknown
  | .readStatus => doReadStatus
  | .readPort => doReadPort
  | .setPort => doSetPort
  | .enablePort => doEnablePort
  | .disablePort => doDisablePort
  | .readRule => doReadRule
  | .writeRule => doWriteRule
  | .deleteRule => doDeleteRule
  | .readHits => doReadHits
  | .readCounters => doReadCounters
  | .clearCountersPort => doClearPort
  | .clearCountersAll => doClearAll
  | .clearCountersHits => doClearHits
  | .readExchange => doReadExchange
  | .takeSnapshot => doTakeSnapshot
  | .ackAlert => doAckAlert
  | .setAgent => doSetAgent
  | .commit => doCommit
  | .load => doLoad
  | .readStore => doReadStore
  | .restartCold => doRestartCold
  | .restartWarm => doRestartWarm
  | _ => fun _ s => s

/-- Every row is a taking of its command. -/
theorem Request.exec_row (rq : Request) (s : State) :
    exec rq.row s = .next (s.takeCommand rq.row (carriedOut rq.row)) := by
  unfold Request.row
  repeat' split
  all_goals rfl

section
variable {s : State} {i : Instr} {e : InputEntry} {rest : List InputEntry}

/-- The head entry, taken: the agent's own check decides whether its command is carried out (R121). -/
theorem State.takeCommand_head (clock : s.clockRunning = true) (mode : s.agent.mode = .idle)
    (input : s.agent.input = e :: rest) (perform : Request → State → State) :
    s.takeCommand (s.requestOf e).row perform =
      if s.agentCheckFails e then ((s.taken e).count e.source .agentbad).followUp
      else (perform (s.requestOf e) (s.taken e)).followUp := by
  have head : s.headCommand = some (s.requestOf e).row := State.headCommand_eq_some.mpr ⟨mode, e, rest, input, rfl⟩
  unfold State.takeCommand
  rw [clock, head, decide_eq_true rfl, input]
  rfl

/-- A row that the head entry does not hold is not taken (log 3, log 6). -/
theorem State.takeCommand_absent (h : s.headCommand ≠ some i) (perform : Request → State → State) :
    s.takeCommand i perform = s := by
  simp [State.takeCommand, h]

/-- A taken command is carried out, and then what may follow does. -/
theorem State.Takes.exec_eq (h : s.Takes i e rest) :
    exec i s = .next (carriedOut i (s.requestOf e) (s.taken e)).followUp := by
  obtain ⟨clock, mode, input, rfl, passes⟩ := h
  rw [Request.exec_row, State.takeCommand_head clock mode input, passes]
  rfl

/-- A statement about a taken command is one about the state in which it leaves the part, before what may follow. -/
theorem State.Takes.leaves (h : s.Takes i e rest) {claim : State → Prop}
    (left : claim (carriedOut i (s.requestOf e) (s.taken e))) :
    ∃ u : State, exec i s = .next u.followUp ∧ u.StartsFrom u.followUp ∧ claim u :=
  ⟨_, h.exec_eq, State.followUp_startsFrom _, left⟩

end

/-! ### What the taking leaves (R121) -/

section
variable (s : State) (e : InputEntry)

@[simp] theorem State.taken_port (p : Port) : (s.taken e).port p = s.port p := rfl
@[simp] theorem State.taken_rules : (s.taken e).rules = s.rules := rfl
@[simp] theorem State.taken_alert : (s.taken e).alert = s.alert := rfl
@[simp] theorem State.taken_store : (s.taken e).store = s.store := rfl

end

/-! ### The reply (R124, R125) -/

theorem PortState.refusesReply_iff {x : PortState} : x.refusesReply = true ↔ x.isOff = true ∨ x.settings.role = .field := by
  simp [PortState.refusesReply]

/-- The offer of a reply; where a marked one is discarded its reset follows at once (R125, R127, R147). -/
theorem State.offerReply_eq (s : State) (p : Port) (r : Reply) :
    s.numberReply.offerReply p r = (s.replyOffered p r).restartIf (if (s.port p).refusesReply then r.restart else none) := by
  unfold State.offerReply State.replyOffered
  dsimp only
  have same : s.numberReply.port p = s.port p := rfl
  rw [same]
  by_cases refused : (s.port p).refusesReply = true
  · rw [if_pos refused, if_pos (PortState.refusesReply_iff.mp refused), if_pos refused, State.settleReply,
      State.settleAddress_eq]
    cases r.restart <;> rfl
  · rw [if_neg refused, if_neg (mt PortState.refusesReply_iff.mpr refused), if_neg refused]
    cases (s.port p).lane <;> rfl

/-- The reply to the command in `e`, offered in a state whose next reply has the same number (R124). -/
theorem State.answer_eq (s : State) (e : InputEntry) {u : State} (number : u.agent.nextReply = s.agent.nextReply)
    (o : CommandOutcome) (body : List Byte) (f : Option RestartForm) :
    u.answer (s.requestOf e) o body f =
      (u.replyOffered e.source (s.replyTo e o body f)).restartIf (if (u.port e.source).refusesReply then f else none) := by
  have built : u.newReply (replyFrame s.agent.settings.address (s.requestOf e).code (s.requestOf e).tag o body) f =
      s.replyTo e o body f := by
    rw [State.newReply, number]
    rfl
  rw [← built]
  exact u.offerReply_eq e.source _

/-- A reply without a restart mark is offered and nothing follows it. -/
theorem State.answer_unmarked (s : State) (e : InputEntry) {u : State} (number : u.agent.nextReply = s.agent.nextReply)
    (o : CommandOutcome) (body : List Byte) :
    u.answer (s.requestOf e) o body none = u.replyOffered e.source (s.replyTo e o body none) := by
  rw [s.answer_eq e number, ite_self]
  rfl

theorem State.answer_taken (s : State) (e : InputEntry) (o : CommandOutcome) (body : List Byte) :
    (s.taken e).answer (s.requestOf e) o body none = (s.taken e).replyOffered e.source (s.replyTo e o body none) :=
  s.answer_unmarked e (u := s.taken e) rfl o body

theorem State.answerPlain_taken (s : State) (e : InputEntry) (o : CommandOutcome) :
    (s.taken e).answerPlain (s.requestOf e) o = s.answered e o :=
  s.answer_taken e o []

/-- A reply does not depend on the rule table. -/
theorem State.replyOffered_withRules (s : State) (rules : List (Option Entry)) (p : Port) (r : Reply) :
    (s.withRules rules).replyOffered p r = (s.replyOffered p r).withRules rules := by
  simp only [State.replyOffered, apply_ite (State.withRules · rules)]
  rfl

/-! ### The checks before a command (R122, R123) -/

section
variable {s : State}

theorem State.permits_always : s.permits .always = true := by
  unfold State.permits
  split <;> simp_all

theorem State.permits_notLoading : s.permits .notLoading = true ↔ s.notLoading := by
  unfold State.permits State.notLoading
  cases s.store.state <;> simp

theorem State.permits_onlyIdle : s.permits .onlyIdle = true ↔ s.store.state = .idle := by
  unfold State.permits
  cases s.store.state <;> simp

theorem State.permits_storeOperation :
    s.permits .storeOperation = true ↔ s.store.state = .idle ∧ s.agent.deferred = none := by
  unfold State.permits
  cases s.store.state <;> simp

/-- The taking of a command changes nothing that R123 looks at. -/
theorem State.taken_permits (s : State) (e : InputEntry) (k : Permit) : (s.taken e).permits k = s.permits k := rfl

variable {e : InputEntry} {α : Type} {k : Permit} {read : List Byte → Option α} {act : α → State}

theorem State.checked_busy (refused : ¬ s.permits k = true) :
    (s.taken e).checked (s.requestOf e) k read act = s.answered e .busy := by
  rw [State.checked, State.taken_permits, if_neg refused, State.answerPlain_taken]

theorem State.checked_badArg (permitted : s.permits k = true) (unread : read (s.requestOf e).body = none) :
    (s.taken e).checked (s.requestOf e) k read act = s.answered e .badArg := by
  rw [State.checked, State.taken_permits, if_pos permitted, unread]
  exact s.answerPlain_taken e .badArg

theorem State.checked_read (permitted : s.permits k = true) {x : α} (readAs : read (s.requestOf e).body = some x) :
    (s.taken e).checked (s.requestOf e) k read act = act x := by
  rw [State.checked, State.taken_permits, if_pos permitted, readAs]

end

/-! ### Reading request bodies (R189) -/

section
variable {body : List Byte}

theorem emptyBody?_eq_some : emptyBody? body = some () ↔ body = [] := by simp [emptyBody?]

theorem emptyBody?_eq_none : emptyBody? body = none ↔ body ≠ [] := by simp [emptyBody?]

theorem justByte?_self (b : Byte) : justByte? b [b] = some () := if_pos rfl

theorem justByte?_eq_none {b : Byte} : justByte? b body = none ↔ body ≠ [b] := by simp [justByte?]

theorem oneByte?_eq_none {α : Type} {f : Byte → Option α} : oneByte? f body = none ↔ ∀ n, body = [n] → f n = none := by
  unfold oneByte?
  split
  · simp
  · rename_i other
    simpa using fun n single => absurd single (other n)

/-- A body that is no byte naming what `f` reads is not read. -/
theorem oneByte?_eq_none_of {α : Type} {f : Byte → Option α} (h : ∀ n x, body = [n] → f n ≠ some x) :
    oneByte? f body = none :=
  oneByte?_eq_none.mpr fun n single => Option.eq_none_iff_forall_ne_some.mpr fun x => h n x single

theorem index?_of_lt {n : Byte} (h : n.toNat < 128) : index? n = some n.toNat := if_pos h

theorem index?_eq_none {n : Byte} : index? n = none ↔ 128 ≤ n.toNat := by
  rw [index?, ite_eq_right_iff, ← Nat.not_lt]
  exact ⟨fun h small => Option.some_ne_none _ (h small), fun h small => absurd small h⟩

theorem seg?_eq_some {n : Byte} {sg : Seg} : seg? n = some sg ↔ port? n = some (.seg sg) := by
  unfold seg?
  split <;> simp_all

end

end Sys2Proof.Machine
end

section
/-! SUPPORT. The management commands that read nothing but the agent, the table and the alert unit, and those that set up ports
(R128, R131, R132, R135, R136, R142 to R147). -/

namespace Sys2Proof.Machine

/-- Settles O37: an empty body is read, any other is not. -/
theorem identifyReportsThePart : Obligations.IdentifyReportsThePart := by
  refine fun s e rest h => h.leaves ⟨fun empty => ?_, fun other => ?_⟩
  · exact (State.checked_read State.permits_always (emptyBody?_eq_some.mpr empty)).trans (s.answer_taken e _ _)
  · exact State.checked_badArg State.permits_always (emptyBody?_eq_none.mpr other)

/-- Settles O40: the reply is offered, then the record is placed. -/
theorem setPortPlacesThePendingRecord : Obligations.SetPortPlacesThePendingRecord := by
  rintro s _ e rest p st h idle read rfl
  refine h.leaves ((State.checked_read (State.permits_onlyIdle.mpr idle) read).trans ?_)
  rw [State.answerPlain_taken]
  rfl

/-! ### The rule table -/

theorem indexedRule?_eq_some {n : Byte} {entry : List Byte} {r : Rule} (index : n.toNat < 128) (read : rule? entry = some r) :
    indexedRule? (n :: entry) = some (n.toNat, r) := by
  rw [indexedRule?, index?_of_lt index, read]
  rfl

/-- A table entry written before the reply is offered. -/
theorem State.answerPlain_withRules (s : State) (e : InputEntry) (rules : List (Option Entry)) (o : CommandOutcome) :
    ((s.taken e).withRules rules).answerPlain (s.requestOf e) o = { s.answered e o with rules := rules } :=
  (s.answer_unmarked e (by rfl) o []).trans (State.replyOffered_withRules _ _ _ _)

/-- Settles O43: the entry is written with hit count 0. -/
theorem writeRuleReplacesOneEntry : Obligations.WriteRuleReplacesOneEntry := by
  intro s e rest n entry r h idle body index read
  have readAs : indexedRule? (s.requestOf e).body = some (n.toNat, r) := body ▸ indexedRule?_eq_some index read
  exact h.leaves ((State.checked_read (State.permits_onlyIdle.mpr idle) readAs).trans (s.answerPlain_withRules e _ _))

/-- Settles O44: the store's state first, then the body, then the entry (R122). -/
theorem deleteRuleMakesTheEntryInvalid : Obligations.DeleteRuleMakesTheEntryInvalid := by
  intro s e rest h
  refine h.leaves ⟨fun busy => State.checked_busy (mt State.permits_onlyIdle.mp busy), fun idle => ?_⟩
  have permitted := State.permits_onlyIdle.mpr idle
  refine ⟨fun outside => ?_, fun n body index => ?_⟩
  · exact State.checked_badArg permitted (oneByte?_eq_none.mpr fun n single => index?_eq_none.mpr (outside n single))
  have readAs : oneByte? index? (s.requestOf e).body = some n.toNat := body ▸ index?_of_lt index
  refine ⟨fun invalid => (State.checked_read permitted readAs).trans ?_, fun entry valid =>
    (State.checked_read permitted readAs).trans ?_⟩
  · rw [State.taken_rules, invalid]
    exact s.answerPlain_taken e _
  · rw [State.taken_rules, valid]
    exact s.answerPlain_withRules e _ _

/-! ### The alert unit and the agent -/

theorem State.formAlert_agent (s : State) : s.formAlert.agent = s.agent := by
  unfold State.formAlert
  split <;> rfl

theorem State.acknowledge_nextReply (s : State) : s.acknowledge.agent.nextReply = s.agent.nextReply :=
  congrArg Agent.nextReply (State.formAlert_agent _)

/-- Settles O46: the body first, then the alert state, then the sequence (R122, R142). -/
theorem ackAlertReturnsToQuiet : Obligations.AckAlertReturnsToQuiet := by
  intro s e rest h
  refine h.leaves ⟨fun other => ?_, fun n body => ?_⟩
  · refine State.checked_badArg State.permits_always (oneByte?_eq_none.mpr fun n single => ?_)
    exact absurd (congrArg List.length single) other
  have readAs : oneByte? some (s.requestOf e).body = some n := body ▸ rfl
  refine ⟨fun quiet => (State.checked_read State.permits_always readAs).trans ?_,
    fun alerting wrong => (State.checked_read State.permits_always readAs).trans ?_,
    fun alerting current => (State.checked_read State.permits_always readAs).trans ?_⟩
  · rw [State.taken_alert, if_pos quiet]
    exact s.answerPlain_taken e _
  · have other : ¬ (s.taken e).matchesAlert n = true := mt of_decide_eq_true wrong
    rw [State.taken_alert, if_neg alerting, if_neg other]
    exact s.answerPlain_taken e _
  · have same : (s.taken e).matchesAlert n = true := decide_eq_true current
    rw [State.taken_alert, if_neg alerting, if_pos same, State.alerted_nil]
    exact s.answer_unmarked e (s.taken e).acknowledge_nextReply _ _

/-- Settles O47: the settings are in force and the address is pending before the reply is offered. -/
theorem setAgentTiesTheAddressToItsReply : Obligations.SetAgentTiesTheAddressToItsReply := fun s e _ _ h idle read =>
  h.leaves ((State.checked_read (State.permits_onlyIdle.mpr idle) read).trans (s.answer_unmarked e (by rfl) _ _))

/-- The reply to a RESTART, and where it is discarded its reset (R147). -/
theorem State.restart_offered {s : State} {e : InputEntry} {n : Byte} (f : RestartForm)
    (body : (s.requestOf e).body = [n]) :
    (s.taken e).checked (s.requestOf e) .always (justByte? n)
        (fun _ => (s.taken e).answer (s.requestOf e) .done [] (some f)) =
      ((s.taken e).replyOffered e.source (s.replyTo e .done [] (some f))).restartIf
        (if (s.port e.source).refusesReply then some f else none) :=
  (State.checked_read State.permits_always (body ▸ justByte?_self n)).trans (s.answer_eq e (by rfl) _ _ _)

/-- Settles O49: both forms offer a marked reply; where it is discarded the reset follows at once. -/
theorem restartMarksItsReply : Obligations.RestartMarksItsReply := by
  refine fun s e rest => ⟨fun i f n h form body => ?_, fun h => h.leaves (s.answerPlain_taken e _)⟩
  have carried : carriedOut i (s.requestOf e) (s.taken e) =
      ((s.taken e).replyOffered e.source (s.replyTo e .done [] (some f))).restartIf
        (if (s.port e.source).refusesReply then some f else none) := by
    rcases form with ⟨rfl, rfl, rfl⟩ | ⟨rfl, rfl, rfl⟩
    · exact State.restart_offered .cold body
    · exact State.restart_offered .warm body
  refine h.leaves ⟨fun on uplink => ?_, fun refused => ?_⟩
  · have taken : ¬ (s.port e.source).refusesReply = true := by simp [PortState.refusesReply, on, uplink]
    rw [carried, if_neg taken]
    rfl
  · rw [carried, if_pos (PortState.refusesReply_iff.mpr refused)]
    rfl

/-! ### The profile store -/

/-- The target of a commit is the bank that is not the newest (R175). -/
theorem Store.target_eq {st : Store} {target : BankId}
    (h : st.newest = none ∧ target = .a ∨ st.newest = some .a ∧ target = .b ∨ st.newest = some .b ∧ target = .a) :
    st.target = target := by
  rcases h with ⟨newest, rfl⟩ | ⟨newest, rfl⟩ | ⟨newest, rfl⟩ <;> rw [Store.target, newest] <;> rfl

/-- Settles O48: the deferred record, then the store's part. -/
theorem commitAndLoadAreAccepted : Obligations.CommitAndLoadAreAccepted := by
  refine ⟨fun s e rest target h idle free empty other => ?_, fun s e rest h idle free empty => ?_⟩
  · have permitted := State.permits_storeOperation.mpr ⟨idle, free⟩
    refine h.leaves ((State.checked_read permitted (emptyBody?_eq_some.mpr empty)).trans ?_)
    rw [← Store.target_eq other]
    rfl
  · have permitted := State.permits_storeOperation.mpr ⟨idle, free⟩
    refine h.leaves ⟨fun noBank => (State.checked_read permitted (emptyBody?_eq_some.mpr empty)).trans ?_,
      fun id newest => (State.checked_read permitted (emptyBody?_eq_some.mpr empty)).trans ?_⟩
    · rw [State.taken_store, noBank]
      exact s.answerPlain_taken e _
    · rw [State.taken_store, newest]
      rfl

end Sys2Proof.Machine
end

section
/-! SUPPORT. The commands that change the ports: ENABLE PORT, CLEAR COUNTERS and TAKE SNAPSHOT (R18, R132, R139, R141). -/

namespace Sys2Proof.Machine

/-! ### ENABLE PORT -/

section
variable (s : State) (p : Port) (r : Role)

theorem State.slotForRole_eq : s.slotForRole p r = { s with segs := (s.slotForRole p r).segs } := by
  cases p <;> rfl

/-- A segment's own slot comes into use, or goes out of use, as its role decides (R87). -/
theorem State.slotForRole_seg (sg : Seg) :
    (s.slotForRole p r).seg sg =
      { s.seg sg with
        slot := if p = .seg sg then (if r = .field then .free else .outOfUse) else (s.seg sg).slot } := by
  cases p with
  | trunk => rfl
  | seg q =>
    by_cases here : sg = q
    · subst here
      rw [State.slotForRole, State.withSlot_seg_self, if_pos rfl]
      cases r <;> rfl
    · have apart : Port.seg q ≠ .seg sg := fun same => here (Port.seg.inj same).symm
      rw [State.slotForRole, State.withSlot_seg_ne _ _ _ here, if_neg apart]

end

/-- Settles O41: an enabled port is left alone; a disabled one comes up before the reply is offered. -/
theorem enablePortBringsThePortUp : Obligations.EnablePortBringsThePortUp := by
  rintro s e rest n p _ h idle body port rfl
  have permitted := State.permits_onlyIdle.mpr idle
  have readAs : oneByte? port? (s.requestOf e).body = some p := body ▸ port
  refine h.leaves ⟨fun enabled => (State.checked_read permitted readAs).trans ?_, fun disabled => ?_⟩
  · rw [State.enablePort, State.taken_port, if_pos enabled]
    exact s.answerPlain_taken e _
  · have up := State.checked_read (act := fun p => ((s.taken e).enablePort p).answerPlain (s.requestOf e) .done)
      permitted readAs
    rw [State.enablePort, State.taken_port, if_neg (by simp [disabled]), State.slotForRole_eq] at up
    exact ⟨_, up.trans (s.answer_unmarked e (by rfl) _ _), State.slotForRole_seg _ p _⟩

/-! ### CLEAR COUNTERS -/

section
variable (s : State) (p : Port)

theorem State.zeroPort_eq :
    s.zeroPort p =
      { s with
        ports := s.ports.set p { s.port p with counters := PortCounters.zero }
        segs := (s.zeroPort p).segs } := by
  cases p <;> rfl

theorem State.zeroPort_seg (sg : Seg) :
    (s.zeroPort p).seg sg =
      { s.seg sg with counters := if p = .seg sg then ExchangeCounters.zero else (s.seg sg).counters } := by
  cases p with
  | trunk => rfl
  | seg q =>
    by_cases here : sg = q
    · subst here
      simp [State.zeroPort]
    · have apart : ¬ q = sg := fun same => here same.symm
      simp [State.zeroPort, here, apart]

theorem State.zeroPort_port (q : Port) :
    (s.zeroPort p).port q = { s.port q with counters := if q = p then PortCounters.zero else (s.port q).counters } := by
  rw [State.zeroPort_eq]
  by_cases here : q = p
  · subst here
    simp [State.port]
  · simp [State.port, here]

variable (l : List Port)

theorem State.zeroPorts_port (q : Port) :
    (l.foldl State.zeroPort s).port q =
      { s.port q with counters := if q ∈ l then PortCounters.zero else (s.port q).counters } := by
  induction l generalizing s with
  | nil => simp
  | cons p l ih =>
    rw [List.foldl_cons, ih, State.zeroPort_port]
    by_cases later : q ∈ l <;> simp [later]

theorem State.zeroPorts_seg (sg : Seg) :
    (l.foldl State.zeroPort s).seg sg =
      { s.seg sg with counters := if .seg sg ∈ l then ExchangeCounters.zero else (s.seg sg).counters } := by
  induction l generalizing s with
  | nil => simp
  | cons p l ih =>
    rw [List.foldl_cons, ih, State.zeroPort_seg]
    by_cases later : .seg sg ∈ l <;> simp [later, eq_comm]

theorem State.zeroPorts_frame :
    ∃ ports segs, l.foldl State.zeroPort s = { s with ports := ports, segs := segs } := by
  induction l generalizing s with
  | nil => exact ⟨_, _, rfl⟩
  | cons p l ih =>
    obtain ⟨ports, segs, frame⟩ := ih (s.zeroPort p)
    rw [List.foldl_cons, frame, State.zeroPort_eq]
    exact ⟨ports, segs, rfl⟩

/-- All ports zeroed one after another are zeroed together. -/
theorem State.zeroPorts_eq :
    Port.list.foldl State.zeroPort s =
      { s with
        ports := s.ports.map fun x => { x with counters := PortCounters.zero }
        segs := s.segs.map fun x => { x with counters := ExchangeCounters.zero } } := by
  have onPort := s.zeroPorts_port Port.list
  have onSeg := s.zeroPorts_seg Port.list
  obtain ⟨ports, segs, frame⟩ := s.zeroPorts_frame Port.list
  rw [frame] at onPort onSeg ⊢
  congr 1
  · ext p
    exact (onPort p).trans (by simp [Port.mem_list, State.port])
  · ext sg
    exact (onSeg sg).trans (by simp [Port.mem_list, State.seg])

end

/-- Settles O45: each form zeroes what it names, then the watermark is set. -/
theorem clearCountersZeroesWhatItsFormNames : Obligations.ClearCountersZeroesWhatItsFormNames := by
  rintro s _ i e rest h loaded rfl
  have permitted := State.permits_notLoading.mpr loaded
  refine ⟨?_, ?_, ?_⟩
  · rintro n p rfl body port
    have readAs : clearPort? (s.requestOf e).body = some p := by rw [body]; exact port
    refine ⟨((s.taken e).zeroPort p).segs, ?_⟩
    refine h.leaves ⟨(s.taken e).zeroPort_seg p, (State.checked_read permitted readAs).trans ?_⟩
    rw [State.zeroPort_eq]
    exact s.answer_unmarked e (by rfl) _ _
  · rintro rfl body
    refine h.leaves ((State.checked_read permitted (body ▸ justByte?_self _)).trans ?_)
    rw [State.zeroPorts_eq]
    exact s.answer_unmarked e (by rfl) _ _
  · rintro rfl body
    exact h.leaves ((State.checked_read permitted (body ▸ justByte?_self _)).trans (s.answer_unmarked e (by rfl) _ _))

/-! ### TAKE SNAPSHOT -/

theorem length_be16 (n : Nat) : (be16 n).length = 2 := rfl

theorem length_be32 (n : Nat) : (be32 n).length = 4 := rfl

/-- The 18 bytes of a snapshot's record (9.5.6). -/
theorem Snapshot.length_report {r : Snapshot} (h : r.bytes.length ≤ 8) (p : Port) : (r.report p).length = 18 := by
  simp only [Snapshot.report, List.length_append, List.length_cons, List.length_nil, List.length_replicate, length_be16,
    length_be32]
  omega

/-- Settles O39: the record by its bytes, then the command by what the snapshot holds. -/
theorem takeSnapshotReleasesIt : Obligations.TakeSnapshotReleasesIt := by
  refine ⟨fun r p kept => ⟨Snapshot.length_report kept p, ?_⟩, fun s e rest n p h loaded body port => ?_⟩
  · simp only [Snapshot.report, List.append_assoc, List.cons_append, List.nil_append]
    cases r.kind <;> rfl
  · have permitted := State.permits_notLoading.mpr loaded
    have readAs : oneByte? port? (s.requestOf e).body = some p := body ▸ port
    refine h.leaves ⟨fun r held => (State.checked_read permitted readAs).trans ?_,
      fun empty => (State.checked_read permitted readAs).trans ?_⟩
    · rw [State.taken_port, held]
      exact s.answer_unmarked e (by rfl) _ _
    · rw [State.taken_port, empty]
      exact s.answerPlain_taken e _

end Sys2Proof.Machine
end

section
/-! SUPPORT. The commands that are refused or not taken, and how a management frame joins the agent's input queue (R33, R119 to
R123). -/

namespace Sys2Proof.Machine

/-! ### Bodies that are not read (R189) -/

section
variable {body : List Byte}

theorem oneByte?_seg?_eq_none (h : ∀ n sg, body = [n] → port? n ≠ some (.seg sg)) : oneByte? seg? body = none :=
  oneByte?_eq_none_of fun n sg single read => h n sg single (seg?_eq_some.mp read)

theorem oneByte?_index?_eq_none (h : ∀ n : Byte, body = [n] → 128 ≤ n.toNat) : oneByte? index? body = none :=
  oneByte?_eq_none.mpr fun n single => index?_eq_none.mpr (h n single)

theorem hitsRange?_eq_none (h : ∀ a n : Byte, body = [a, n] → n.toNat = 0 ∨ 60 < n.toNat ∨ 128 < a.toNat + n.toNat) :
    hitsRange? body = none := by
  unfold hitsRange?
  split
  · rename_i a n
    refine if_neg fun ⟨low, high, inside⟩ => ?_
    have outside := h a n rfl
    have entries : Config.ruleEntries = 128 := rfl
    omega
  · rfl

theorem indexedRule?_eq_none (h : ∀ n entry, body = n :: entry → 128 ≤ n.toNat ∨ rule? entry = none) :
    indexedRule? body = none := by
  unfold indexedRule?
  split
  · rename_i n entry
    rcases h n entry rfl with outside | unread
    · rw [index?_eq_none.mpr outside]
      rfl
    · rw [unread]
      cases index? n <;> rfl
  · rfl

theorem clearPort?_eq_none (h : ∀ n p, body = [0#8, n] → port? n ≠ some p) : clearPort? body = none := by
  unfold clearPort?
  split
  · rename_i form n
    split
    · rename_i one
      subst one
      exact Option.eq_none_iff_forall_ne_some.mpr fun p => h n p rfl
    · rfl
  · rfl

end

/-! ### BUSY, BADARG and NOENTRY -/

section
variable {s : State} {i : Instr} {e : InputEntry}

theorem carriedOut_busy_onlyIdle (row : i ∈ [Instr.setPort, .enablePort, .disablePort, .writeRule, .deleteRule, .setAgent])
    (h : s.store.state ≠ .idle) : carriedOut i (s.requestOf e) (s.taken e) = s.answered e .busy := by
  have refused := mt State.permits_onlyIdle.mp h
  simp only [List.mem_cons, List.not_mem_nil, or_false] at row
  rcases row with rfl | rfl | rfl | rfl | rfl | rfl
  all_goals exact State.checked_busy refused

theorem carriedOut_busy_loading
    (row : i ∈ [Instr.readPort, .readRule, .readHits, .clearCountersPort, .clearCountersAll, .clearCountersHits, .readExchange,
      .takeSnapshot])
    (h : ¬ s.notLoading) : carriedOut i (s.requestOf e) (s.taken e) = s.answered e .busy := by
  have refused := mt State.permits_notLoading.mp h
  simp only [List.mem_cons, List.not_mem_nil, or_false] at row
  rcases row with rfl | rfl | rfl | rfl | rfl | rfl | rfl | rfl
  all_goals exact State.checked_busy refused

theorem carriedOut_busy_storeOperation (row : i ∈ [Instr.commit, .load])
    (h : s.store.state ≠ .idle ∨ s.agent.deferred ≠ none) :
    carriedOut i (s.requestOf e) (s.taken e) = s.answered e .busy := by
  have refused : ¬ s.permits .storeOperation = true := fun permitted =>
    h.elim (· (State.permits_storeOperation.mp permitted).1) (· (State.permits_storeOperation.mp permitted).2)
  simp only [List.mem_cons, List.not_mem_nil, or_false] at row
  rcases row with rfl | rfl
  all_goals exact State.checked_busy refused

end

/-- Settles O50: the store's state first, then the body by the layout of each row, then the table (R122). -/
theorem refusedCommandsChangeNothing : Obligations.RefusedCommandsChangeNothing := by
  rintro s i e rest _ h rfl
  refine ⟨fun busy => h.leaves ?_, fun bad => h.leaves ?_, ?_⟩
  · rcases busy with ⟨row, store⟩ | ⟨row, store⟩ | ⟨row, store⟩
    · exact carriedOut_busy_onlyIdle row store
    · exact carriedOut_busy_loading row store
    · exact carriedOut_busy_storeOperation row store
  · simp only [List.mem_cons, List.not_mem_nil, or_false] at bad
    have always := State.permits_always (s := s)
    have loaded : s.notLoading → _ := State.permits_notLoading.mpr
    have idle : s.store.state = .idle → _ := State.permits_onlyIdle.mpr
    rcases bad with ⟨row, body⟩ | ⟨row, store, free, body⟩ | ⟨rfl, body⟩ | ⟨row, store, body⟩ | ⟨rfl, store, body⟩ |
      ⟨rfl, store, body⟩ | ⟨rfl, store, body⟩ | ⟨rfl, store, body⟩ | ⟨rfl, store, body⟩ | ⟨rfl, store, body⟩ |
      ⟨rfl, store, body⟩ | ⟨rfl, store, body⟩ | ⟨rfl, store, body⟩ | ⟨rfl, store, body⟩ | ⟨rfl, store, body⟩ |
      ⟨rfl, body⟩ | ⟨rfl, body⟩
    · rcases row with rfl | rfl
      all_goals exact State.checked_badArg always (emptyBody?_eq_none.mpr body)
    · rcases row with rfl | rfl
      all_goals exact State.checked_badArg (State.permits_storeOperation.mpr ⟨store, free⟩) (emptyBody?_eq_none.mpr body)
    · exact State.checked_badArg always (oneByte?_eq_none_of body)
    · rcases row with rfl | rfl
      all_goals exact State.checked_badArg (loaded store) (oneByte?_eq_none_of body)
    · exact State.checked_badArg (idle store) (oneByte?_eq_none_of body)
    · exact State.checked_badArg (loaded store) (oneByte?_seg?_eq_none body)
    · exact State.checked_badArg (idle store) (oneByte?_seg?_eq_none body)
    · exact State.checked_badArg (loaded store) (oneByte?_index?_eq_none body)
    · exact State.checked_badArg (loaded store) (hitsRange?_eq_none body)
    · exact State.checked_badArg (idle store) body
    · exact State.checked_badArg (idle store) (indexedRule?_eq_none body)
    · exact State.checked_badArg (idle store) body
    · exact State.checked_badArg (loaded store) (clearPort?_eq_none body)
    · exact State.checked_badArg (loaded store) (justByte?_eq_none.mpr body)
    · exact State.checked_badArg (loaded store) (justByte?_eq_none.mpr body)
    · exact State.checked_badArg always (justByte?_eq_none.mpr body)
    · exact State.checked_badArg always (justByte?_eq_none.mpr body)
  · rintro ⟨rfl, store, n, body, index, invalid⟩
    have readAs : oneByte? index? (s.requestOf e).body = some n.toNat := body ▸ index?_of_lt index
    refine h.leaves ((State.checked_read (State.permits_notLoading.mpr store) readAs).trans ?_)
    rw [State.taken_rules, invalid]
    exact s.answerPlain_taken e _

/-! ### Commands that are not carried out -/

/-- Settles O51: the agent's own check first; a row that is not at the head is not taken. -/
theorem badOrAbsentCommandsAreNotCarriedOut : Obligations.BadOrAbsentCommandsAreNotCarriedOut := by
  refine fun s v i e rest clock => ⟨?_, ?_⟩
  · rintro mode input rfl unchecked fails rfl
    have failed : s.agentCheckFails e = true := by simp [State.agentCheckFails, unchecked, fails]
    refine ⟨_, ?_, State.followUp_startsFrom _, rfl⟩
    rw [Request.exec_row, State.takeCommand_head clock mode input, if_pos failed]
    rfl
  · rintro ⟨rq, rfl⟩ absent
    have other : s.headCommand ≠ some rq.row := by
      intro head
      obtain ⟨mode, e', rest', input, row⟩ := State.headCommand_eq_some.mp head
      rcases absent with empty | waits | ⟨here, elsewhere⟩
      · exact absurd (empty.symm.trans input) (by simp)
      · exact waits mode
      · obtain ⟨rfl, _⟩ := List.cons.inj (here.symm.trans input)
        exact elsewhere row
    rw [Request.exec_row, State.takeCommand_absent other]

/-! ### Management frames (R33, R119, R120, R165) -/

section
variable (s : State) (p : Port) (b : Nat)

/-- A management frame of the trunk revives a STALLED alert, which is placed again (R165). -/
theorem State.reportManagement_eq :
    s.reportManagement p =
      if p = .trunk ∧ s.alert.state = .stalled then
        { s with
          alert := { s.alert with state := .outstanding, repeatCount := 0 }
          alertLane := (s.alert.current.map (·.frame)).orElse fun _ => s.alertLane }
      else s := by
  cases p with
  | seg sg => exact (if_neg fun h => nomatch h.1).symm
  | trunk =>
    rw [State.reportManagement, State.reportTrunkManagement]
    by_cases stalled : s.alert.state = .stalled
    · rw [if_pos stalled, if_pos ⟨rfl, stalled⟩, State.placeCurrentAlert, State.withAlert_alert]
      cases s.alert.current <;> rfl
    · rw [if_neg stalled, if_neg fun h => stalled h.2]

theorem State.reportManagement_keeps :
    (s.reportManagement p).agent = s.agent ∧ (s.reportManagement p).ports = s.ports ∧ (s.reportManagement p).pool = s.pool := by
  rw [State.reportManagement_eq]
  split
  · exact ⟨rfl, rfl, rfl⟩
  · exact ⟨rfl, rfl, rfl⟩

variable {s}

/-- The input queue has room below 4 entries (R120). -/
theorem State.joinInput_room (room : s.agent.input.length < 4) :
    s.joinInput p b = { s with agent := { s.agent with input := s.agent.input ++ [⟨b, p, (s.port p).settings.checkMode⟩] } } :=
  if_pos room

theorem State.joinInput_full (full : 4 ≤ s.agent.input.length) :
    s.joinInput p b =
      { s with
        pool := s.pool.drop b
        ports := s.ports.set p { s.port p with counters := (s.port p).counters.bump .agentovf } } :=
  if_neg (Nat.not_lt.mpr full)

end

section
variable {s : State} {p : Port} {f : Assembly}

theorem State.isManagement_iff {frame : List Byte} :
    s.isManagement p frame = true ↔
      s.managementEffective p = true ∧ 5 ≤ frame.length ∧ frame.head? = some s.agent.settings.address := by
  simp [State.isManagement, and_assoc]

theorem State.length_assembled (s : State) (f : Assembly) : (s.assembled f).length = f.length := by
  simp [State.assembled, Pool.bytes, Memory.readBytes]

/-- The ports that carry management: the trunk, and an UPLINK segment that permits it (R1). -/
theorem State.managementEffective_of
    (h : p = .trunk ∨ ∃ sg, p = .seg sg ∧ (s.port p).settings.role = .uplink ∧ (s.port p).settings.mgmt = true ∧
      (s.seg sg).slot = .outOfUse) : s.managementEffective p = true := by
  rcases h with rfl | ⟨sg, rfl, role, mgmt, _⟩
  · rfl
  · simp [State.managementEffective, role, mgmt]

/-- A clean frame on the trunk, or on a segment whose slot is out of use, is judged by no slot (R30). -/
theorem State.routeClean_unused (b : Nat) (h : p = .trunk ∨ ∃ sg, p = .seg sg ∧ (s.seg sg).slot = .outOfUse) :
    s.routeClean p b = s.routeOrdinary p b := by
  rcases h with rfl | ⟨sg, rfl, unused⟩
  · rfl
  · rw [State.routeClean, unused]

/-- A management frame that completes goes to the agent (R30, R119). -/
theorem State.gapExpires_management (completing : s.Completing p f) (clean : s.Clean p f)
    (port : p = .trunk ∨ ∃ sg, p = .seg sg ∧ (s.port p).settings.role = .uplink ∧ (s.port p).settings.mgmt = true ∧
      (s.seg sg).slot = .outOfUse)
    (length : 5 ≤ f.length) (address : (s.assembled f).head? = some s.agent.settings.address) :
    s.gapExpires p = (State.alerted ((s.completed p f).takeManagementFrame p f.buffer) []).followUp := by
  have management : (s.completed p f).isManagement p (s.assembled f) = true := by
    rw [State.completed_isManagement]
    exact State.isManagement_iff.mpr
      ⟨State.managementEffective_of port, (s.length_assembled f).symm ▸ length, address⟩
  have unused : p = .trunk ∨ ∃ sg, p = .seg sg ∧ ((s.completed p f).seg sg).slot = .outOfUse :=
    port.imp_right fun ⟨sg, here, _, _, slot⟩ => ⟨sg, here, slot⟩
  rw [State.gapExpires_completing completing, State.complete_clean completing clean, State.routeClean_unused _ unused,
    State.routeOrdinary, completing.completed_frame, if_pos management, State.alerted_nil]
  rfl

end

/-- Settles O20: the alert unit hears of the frame, then the input queue takes or refuses it. -/
theorem managementFrameJoinsTheInputQueue : Obligations.ManagementFrameJoinsTheInputQueue := by
  rintro s _ a p f completing clean port length address rfl ha
  have reported : a = (s.completed p f).reportManagement p := ha.trans ((s.completed p f).reportManagement_eq p).symm
  obtain ⟨agent, ports, pool⟩ := (s.completed p f).reportManagement_keeps p
  rw [← reported] at agent ports pool
  have samePort : a.port p = (s.completed p f).port p := congrArg (·.get p) ports
  rw [exec_gapTimerExpiry completing.clock, State.gapExpires_management completing clean port length address,
    State.takeManagementFrame, ← reported]
  refine ⟨_, rfl, State.followUp_startsFrom _, fun room => ?_, fun full => ?_⟩
  · rw [State.joinInput_room p _ (agent ▸ room), agent, samePort, State.completed_settings]
    rfl
  · rw [State.joinInput_full p _ (agent ▸ full), pool, ports, samePort]

end Sys2Proof.Machine
end

section
/-! SUPPORT. The resets that a RESTART takes with its reply (R20, R21, R85, R118, R147): a COLD reset is the wipe with a start-up
load begun; a WARM reset stops each port and each slot once, and nothing starts in a part whose ports are off. -/

namespace Sys2Proof.Machine

/-! ### Nothing follows where every port is off -/

section
variable {s : State}

theorem State.applyPending_off {p : Port} (h : (s.port p).tx.state = .off) : s.applyPending p = s := by
  unfold State.applyPending
  split
  · rfl
  · refine if_neg ?_
    simp [State.atIdlePoint, h]

/-- Ports that are off start nothing and take no settings (R5, R13). -/
theorem State.followUp_off (h : ∀ p, (s.port p).tx.state = .off) : s.followUp = s := by
  rw [State.followUp, List.foldl_fixed' (fun p => State.startPort_none (.inl (h p)))]
  exact List.foldl_fixed' (fun p => State.applyPending_off (h p)) _

end

/-! ### COLD -/

/-- What a cold kind leaves of everything but the store does not depend on how the store begins. -/
theorem State.ColdResetOf.withStore {s t : State} {k : ResetCause} (h : s.ColdResetOf t k) {st : Store}
    (banks : st.bankA.body = s.store.bankA.body ∧ st.bankB.body = s.store.bankB.body ∧
      st.bankA.eraseCount = s.store.bankA.eraseCount ∧ st.bankB.eraseCount = s.store.bankB.eraseCount)
    (abandoned : st.state = .idle ∨ ∃ src, st.state = .startup src) : s.ColdResetOf (t.withStore st) k where
  cause := h.cause
  timeBase := h.timeBase
  counts := h.counts
  free := h.free
  rules := h.rules
  watermark := h.watermark
  bytes := h.bytes
  holders := h.holders
  stopped := h.stopped
  outputs := h.outputs
  ports := h.ports
  segs := h.segs
  alert := h.alert
  agent := h.agent
  banks := banks
  abandoned := abandoned

theorem State.coldReset_eq (s : State) : s.coldReset = (s.wiped .cold s.supply s.pinHeld).withStore s.store.starting := rfl

theorem State.coldReset_coldResetOf (s : State) : s.ColdResetOf s.coldReset .cold :=
  s.coldReset_eq ▸ (s.wiped_coldResetOf .cold s.supply s.pinHeld).withStore ⟨rfl, rfl, rfl, rfl⟩ (.inr ⟨_, rfl⟩)

/-! ### WARM: each port and each slot once -/

/-- A fold that visits each item once does to it what one of its steps does. -/
theorem State.foldl_once {α β : Type} {f : State → α → State} {read : State → α → β} {becomes : β → β → Prop}
    (makes : ∀ s a, becomes (read s a) (read (f s a) a)) (keeps : ∀ s a b, b ≠ a → read (f s a) b = read s b) {l : List α}
    (once : l.Nodup) (s : State) : ∀ a ∈ l, becomes (read s a) (read (l.foldl f s) a) := by
  have others (l : List α) (s : State) (b : α) (h : b ∉ l) : read (l.foldl f s) b = read s b := by
    induction l generalizing s with
    | nil => rfl
    | cons a l ih =>
      exact (ih _ (List.not_mem_of_not_mem_cons h)).trans (keeps s a b (List.ne_of_not_mem_cons h))
  induction l generalizing s with
  | nil => simp
  | cons a l ih =>
    obtain ⟨fresh, once⟩ := List.nodup_cons.mp once
    intro b here
    rcases List.mem_cons.mp here with rfl | later
    · exact (others l _ b fresh).symm ▸ makes s b
    · exact keeps s a b (fun same => fresh (same ▸ later)) ▸ ih once (f s a) b later

/-- The port `y` is `x` after a WARM reset (R21, R85), up to its receiver and transmitter. -/
def PortState.WarmTo (x y : PortState) : Prop :=
  y = { x with
    pendingSettings := none
    rx := y.rx
    tx := y.tx
    queue := TxQueue.empty
    lane := none
    guardFrom := none
    counters := x.counters.bumpIf x.tx.state.isSending .aborted }

/-- A port whose transmitter is made to stop: a frame being sent is cut after its character in progress and counted ABORTED (R19,
R83, log 25). -/
def State.cutPort (s : State) (p : Port) : PortState :=
  { s.port p with
    tx := ⟨.off, match (s.port p).tx.state with
      | .sending cur since => s.characterInProgress p cur since
      | .off | .idle | .waiting => (s.port p).tx.drain⟩
    counters := (s.port p).counters.bumpIf (s.port p).tx.state.isSending .aborted }

theorem State.abortSending_cut (s : State) (p : Port) :
    s.abortSending p = (s.withPort p (s.cutPort p)).dropRef? (s.port p).tx.state.reference := by
  unfold State.abortSending State.cutPort
  cases h : (s.port p).tx.state with
  | sending cur since =>
    dsimp only [TxState.reference]
    rw [State.count, State.withTx_port_self, State.withTx, State.withPort_withPort]
    rfl
  | _ => rfl

theorem State.warmPort_warmTo (s : State) (p : Port) : (s.port p).WarmTo ((s.warmPort p).port p) := by
  rw [State.warmPort, State.abortSending_cut]
  dsimp only
  rw [State.withPort_port_self, State.dropRef?_port, State.withPort_port_self]
  rfl

/-- A segment `x` whose port has the settings `st`, after a WARM reset (R118). -/
def SegState.warmed (x : SegState) (st : Settings) : SegState :=
  { x with
    slot := Slot.forRole st.role
    counters := if x.slot.openRecord.isSome then x.counters.bump .cancelled else x.counters }

theorem State.warmSlot_seg (s : State) (sg : Seg) : (s.warmSlot sg).seg sg = (s.seg sg).warmed (s.segSettings sg) := by
  unfold State.warmSlot SegState.warmed
  dsimp only
  split
  · rw [State.withSlot_seg_self, State.countExchange_seg_self]
    rfl
  · rw [State.withSlot_seg_self]

theorem State.warmPort_seg (s : State) (p : Port) (sg : Seg) : (s.warmPort p).seg sg = s.seg sg := by
  simp [State.warmPort]

theorem State.warmPorts_seg (s : State) (l : List Port) (sg : Seg) : (l.foldl State.warmPort s).seg sg = s.seg sg := by
  induction l generalizing s with
  | nil => rfl
  | cons p l ih => exact (ih _).trans (s.warmPort_seg p sg)

theorem State.warmPorts_port (s : State) (p : Port) : (s.port p).WarmTo ((Port.list.foldl State.warmPort s).port p) :=
  State.foldl_once (read := State.port) State.warmPort_warmTo (fun s _ _ apart => s.warmPort_port_ne apart) (by decide) s p
    p.mem_list

theorem State.warmSlots_seg (s : State) (sg : Seg) :
    (Seg.list.foldl State.warmSlot s).seg sg = (s.seg sg).warmed (s.segSettings sg) := by
  refine State.foldl_once (read := fun s sg => (s.seg sg, s.segSettings sg))
    (becomes := fun x y => y.1 = x.1.warmed x.2) State.warmSlot_seg (fun s a b apart => ?_) (by decide) s sg sg.mem_list
  simp only [State.segSettings, State.warmSlot_port, State.warmSlot_seg_ne s apart]

/-! ### WARM: what is kept -/

/-- A dropped reference is of no account to a pool set afresh (R42). -/
theorem Pool.afresh_drop (m : Pool) (b : Nat) : (m.drop b).afresh (m.drop b).watermark = m.afresh m.watermark := by
  unfold Pool.drop
  split <;> rfl

/-- `t` is `s` with other ports and segments, and a pool that is the same when set afresh. -/
def State.WarmFrame (s t : State) : Prop :=
  t = { s with pool := t.pool, ports := t.ports, segs := t.segs } ∧
    t.pool.afresh t.pool.watermark = s.pool.afresh s.pool.watermark

theorem State.WarmFrame.trans {s t u : State} (h : s.WarmFrame t) (k : t.WarmFrame u) : s.WarmFrame u := by
  obtain ⟨frame, pool⟩ := h
  obtain ⟨frame', pool'⟩ := k
  refine ⟨?_, pool'.trans pool⟩
  rw [frame] at frame'
  exact frame'

theorem State.warmPort_frame (s : State) (p : Port) : s.WarmFrame (s.warmPort p) := by
  rw [State.warmPort, State.abortSending_cut]
  cases (s.port p).tx.state.reference with
  | none => exact ⟨rfl, rfl⟩
  | some b => exact ⟨rfl, s.pool.afresh_drop b⟩

theorem State.warmSlot_frame (s : State) (sg : Seg) : s.WarmFrame (s.warmSlot sg) := by
  unfold State.warmSlot
  dsimp only
  split <;> exact ⟨rfl, rfl⟩

theorem State.foldl_warmFrame {α : Type} {f : State → α → State} (hf : ∀ s a, State.WarmFrame s (f s a)) (l : List α)
    (s : State) : s.WarmFrame (l.foldl f s) := by
  induction l generalizing s with
  | nil => exact ⟨rfl, rfl⟩
  | cons a l ih => exact (hf s a).trans (ih _)

/-- The ports and the slots of `s` after a WARM reset. -/
def State.warmed (s : State) : State := Seg.list.foldl State.warmSlot (Port.list.foldl State.warmPort s)

section
variable (s : State)

theorem State.warmed_frame : s.WarmFrame s.warmed :=
  (State.foldl_warmFrame State.warmPort_frame _ _).trans (State.foldl_warmFrame State.warmSlot_frame _ _)

theorem State.warmed_port (p : Port) : (s.port p).WarmTo (s.warmed.port p) := by
  rw [State.warmed, State.warmSlots_port]
  exact s.warmPorts_port p

theorem State.warmed_emptied (p : Port) : (s.warmed.port p).Emptied := by
  rw [State.warmed, State.warmSlots_port]
  exact s.warmPorts_emptied p

theorem State.warmed_seg (sg : Seg) : s.warmed.seg sg = (s.seg sg).warmed (s.segSettings sg) := by
  have settings : (Port.list.foldl State.warmPort s).segSettings sg = s.segSettings sg := by
    rw [State.segSettings, s.warmPorts_port (.seg sg)]
    rfl
  rw [State.warmed, State.warmSlots_seg, settings, State.warmPorts_seg]

/-- Ports that are emptied and slots without a reference hold nothing, and no command waits (R38). -/
theorem State.holds_eq_nil {s : State} (ports : ∀ p, (s.port p).Emptied)
    (slots : ∀ sg, (s.seg sg).slot.requestReference = none) (input : s.agent.input = []) : s.holds = [] := by
  have nothing (p : Port) : (s.port p).holds = [] := by
    obtain ⟨rx, tx, queue, _⟩ := ports p
    rw [PortState.holds, rx, tx, queue]
    rfl
  simp [State.holds, nothing, slots, input]

/-- A WARM reset but for its ports and slots. -/
theorem State.warmReset_eq :
    s.warmReset =
      { s with
        resetCause := .warm
        pool := s.pool.afresh s.pool.watermark
        ports := s.warmed.ports
        segs := s.warmed.segs
        alertLane := none
        agent := s.agent.warm
        alert := s.alert.warm
        store := s.store.starting } := by
  obtain ⟨frame, pool⟩ := s.warmed_frame
  calc s.warmReset
    _ = State.beginStartup
          { s.warmed with
            resetCause := .warm
            pool := s.pool.afresh s.pool.watermark
            alertLane := none
            agent := s.warmed.agent.warm
            alert := s.warmed.alert.warm } := by rw [← pool]; rfl
    _ = _ := by rw [frame]; rfl

/-- A WARM reset stops what is to be stopped and keeps the rest. -/
theorem State.warmReset_warmResetOf : s.WarmResetOf s.warmReset := by
  rw [State.warmReset_eq]
  exact {
    cause := rfl
    kept := ⟨rfl, rfl, rfl, rfl, rfl, rfl, rfl, rfl, rfl⟩
    pool := rfl
    holders := State.holds_eq_nil s.warmed_emptied
      (fun sg => (congrArg (·.slot.requestReference) (s.warmed_seg sg)).trans (Slot.requestReference_forRole _)) rfl
    stopped := fun p => ⟨(s.warmed_emptied p).rx, (s.warmed_emptied p).tx⟩
    ports := s.warmed_port
    segs := s.warmed_seg
    alert := ⟨rfl, rfl⟩
    agent := rfl
    store := rfl }

end

theorem State.withLane_settings (s : State) (p : Port) (x : Option Reply) (q : Port) :
    ((s.withLane p x).port q).settings = (s.port q).settings := by
  by_cases here : q = p
  · subst here
    rw [State.withLane_port_self]
  · rw [State.withLane_port_ne _ _ _ here]

/-- What stands in a lane when the reset is taken is of no account to it. -/
theorem State.WarmResetOf.of_withLane {s t : State} {p : Port} {x : Option Reply} (h : (s.withLane p x).WarmResetOf t) :
    s.WarmResetOf t where
  cause := h.cause
  kept := h.kept
  pool := h.pool
  holders := h.holders
  stopped := h.stopped
  ports q := by
    have there := h.ports q
    by_cases here : q = p
    · subst here
      rwa [State.withLane_port_self] at there
    · rwa [State.withLane_port_ne _ _ _ here] at there
  segs sg := by
    have there := h.segs sg
    have settings : (s.withLane p x).segSettings sg = s.segSettings sg := s.withLane_settings p x (.seg sg)
    rwa [settings] at there
  alert := h.alert
  agent := h.agent
  store := h.store

/-! ### The send end of a restart reply -/

/-- The lane is emptied and the reset taken; every port is off after it, and nothing follows (R147). -/
theorem exec_sendEnd_restart {s : State} {p : Port} {r : Reply} {since : Nat} {f : RestartForm} (clock : s.clockRunning = true)
    (sending : (s.port p).tx.state = .sending .reply since) (lane : (s.port p).lane = some r) (marked : r.restart = some f)
    (off : ∀ q, ((((s.sent p).withLane p none).restart f).port q).tx.state = .off) :
    exec (.sendEnd p) s = .next (((s.sent p).withLane p none).restart f) := by
  have sentLane : ((s.sent p).port p).lane = some r := by rw [State.sent_port_self, State.sentPort_lane, lane]
  have finished : (s.sent p).finishReply p = ((s.sent p).withLane p none).restart f := by
    simp only [State.finishReply, sentLane, marked]
  rw [exec_sendEnd clock, State.sendEnds_sending sending, State.finishCurrent, finished, State.followUp_off off]

/-- Settles O32: the reset is taken in the same event, and no port is up after it. -/
theorem sendEndOfARestartReplyTakesTheReset : Obligations.SendEndOfARestartReplyTakesTheReset := by
  refine fun s p r since clock sending lane => ⟨fun cold => ?_, fun warm => ?_⟩
  · have reset := State.coldReset_coldResetOf s
    exact ⟨_, exec_sendEnd_restart clock sending lane cold fun q => (reset.stopped q).2, reset, rfl, rfl, rfl, rfl⟩
  · have reset := ((s.sent p).withLane p none).warmReset_warmResetOf
    exact ⟨_, exec_sendEnd_restart clock sending lane warm fun q => (reset.stopped q).2, reset.of_withLane⟩

end Sys2Proof.Machine
end

section
/-! SUPPORT. DISABLE PORT on a segment (R19, R84, R109, R110, R126, R127, R133): what each of its parts does, and all of them
together as one change of the state before the notice and the reply. -/

namespace Sys2Proof.Machine

/-! ### Dropped references -/

section
variable (s : State)

theorem State.dropRefs_eq (bs : List Nat) : s.dropRefs bs = s.withPool (bs.foldl Pool.drop s.pool) := by
  induction bs generalizing s with
  | nil => rfl
  | cons b bs ih => exact ih (s.dropRef b)

theorem State.dropRef?_eq (b : Option Nat) : s.dropRef? b = s.dropRefs b.toList := by
  cases b <;> rfl

theorem State.dropRefs_append (bs cs : List Nat) : s.dropRefs (bs ++ cs) = (s.dropRefs bs).dropRefs cs := by
  simp only [State.dropRefs_eq, State.withPool_pool, List.foldl_append]
  rfl

end

/-- What a buffer holds does not depend on the references (R37). -/
theorem Pool.frame_drop (m : Pool) (b c : Nat) : (m.drop b).frame c = m.frame c := by
  unfold Pool.drop
  split <;> rfl

/-! ### Receiver, transmitter and queue -/

section
variable (s : State) (p : Port)

theorem State.receiverOff_pool_frame (b : Nat) : (s.receiverOff p).pool.frame b = s.pool.frame b := by
  unfold State.receiverOff
  cases (s.port p).rx.state.buffer with
  | none => rfl
  | some c => exact Pool.frame_drop s.pool c b

theorem State.receiverOff_port :
    (s.receiverOff p).port p = { s.port p with enabled := false, rx := Receiver.fresh .off, guardFrom := none } := by
  rw [State.receiverOff, State.dropRef?_port, State.withPort_port_self]

theorem State.receiverOff_frame : ∃ m ports, s.receiverOff p = { s with pool := m, ports := ports } := by
  unfold State.receiverOff
  cases (s.port p).rx.state.buffer <;> exact ⟨_, _, rfl⟩

/-- The character in progress is the one that the transmitter sends, whatever the receiver loses (R19). -/
theorem State.characterInProgress_receiverOff (cur : Current) (since : Nat) :
    (s.receiverOff p).characterInProgress p cur since = s.characterInProgress p cur since := by
  have bytes : (s.receiverOff p).currentBytes p cur = s.currentBytes p cur := by
    cases cur with
    | descriptor d => exact s.receiverOff_pool_frame p d.buffer
    | retry b => exact s.receiverOff_pool_frame p b
    | reply => rw [State.currentBytes, State.receiverOff_port]; rfl
    | alert =>
      obtain ⟨_, _, frame⟩ := s.receiverOff_frame p
      rw [frame]
      rfl
  have now : (s.receiverOff p).now = s.now := by
    obtain ⟨_, _, frame⟩ := s.receiverOff_frame p
    rw [frame]
  unfold State.characterInProgress
  rw [bytes, now, State.receiverOff_port]

/-- A port that DISABLE PORT has stopped: its frame cut, its receiver OFF, its queue and lane empty (R19, R84). -/
def State.haltedPort : PortState :=
  { s.cutPort p with
    enabled := false
    rx := Receiver.fresh .off
    queue := TxQueue.empty
    lane := none
    guardFrom := none }

/-- The buffers of a port's receiver, transmitter and queue, in the order in which a stop drops them (R110). -/
def PortState.freed (x : PortState) : List Nat := x.rx.state.buffer.toList ++ x.tx.state.reference.toList ++ x.queue.buffers

theorem State.cutPort_receiverOff :
    (s.receiverOff p).cutPort p = { s.cutPort p with enabled := false, rx := Receiver.fresh .off, guardFrom := none } := by
  unfold State.cutPort
  simp only [State.receiverOff_port, State.characterInProgress_receiverOff]

theorem State.flushQueue_eq :
    s.flushQueue p =
      (s.withPort p { s.port p with queue := TxQueue.empty, lane := none }).dropRefs (s.port p).queue.buffers := by
  rw [State.flushQueue, State.withQueue, State.withLane, State.withPort_port_self, State.dropRefs_port,
    State.withPort_withPort, State.dropRefs_withPort]
  rfl

/-- Receiver, transmitter and queue stopped one after another (R19, R84, R110). -/
theorem State.haltPort_eq :
    ((s.receiverOff p).abortSending p).flushQueue p = (s.withPort p (s.haltedPort p)).dropRefs (s.port p).freed := by
  rw [PortState.freed, State.dropRefs_append, State.dropRefs_append, ← State.dropRef?_eq, ← State.dropRef?_eq,
    State.flushQueue_eq, State.abortSending_cut, State.cutPort_receiverOff, State.receiverOff]
  simp only [State.dropRef?_port, State.withPort_port_self, State.dropRef?_withPort, State.withPort_withPort]
  rfl

end

/-! ### Lost replies (R84, R126, R127) -/

/-- The agent once the reply in a flushed lane is lost (R127). -/
def Agent.losing (a : Agent) (r : Option Reply) : Agent :=
  match r with
  | none => a
  | some r => a.addressed r.id

/-- The agent once a deferred reply that waits for port `p` is lost with its record (R126, R127). -/
def Agent.losingOwed (a : Agent) (p : Port) : Agent :=
  match a.owedTo p with
  | none => a
  | some r => Agent.addressed { a with deferred := none } r.id

section
variable (s : State)

theorem State.settleLost_eq (r : Option Reply) : s.settleLost r = s.withAgent (s.agent.losing r) := by
  cases r with
  | none => rfl
  | some r => exact s.settleAddress_eq r.id

theorem State.loseDeferred_eq (p : Port) : s.loseDeferred p = s.withAgent (s.agent.losingOwed p) := by
  unfold State.loseDeferred Agent.losingOwed Agent.owedTo
  cases deferred : s.agent.deferred with
  | none => rfl
  | some d =>
    cases built : d.built with
    | none => simp [built]; rfl
    | some r =>
      by_cases here : d.port = p
      · simp [built, here, State.settleAddress_eq]
        rfl
      · simp [built, here]
        rfl

end

theorem Agent.addressed_nextReply (a : Agent) (id : Nat) : (a.addressed id).nextReply = a.nextReply := by
  unfold Agent.addressed
  split
  · rfl
  · split <;> rfl

theorem Agent.losing_nextReply (a : Agent) (r : Option Reply) : (a.losing r).nextReply = a.nextReply := by
  cases r with
  | none => rfl
  | some r => exact a.addressed_nextReply r.id

theorem Agent.losingOwed_nextReply (a : Agent) (p : Port) : (a.losingOwed p).nextReply = a.nextReply := by
  unfold Agent.losingOwed
  split
  · rfl
  · exact Agent.addressed_nextReply _ _

/-! ### The slot (R109) -/

/-- The reference of the request that goes with an open exchange (R109). -/
def Slot.cancelled (sl : Slot) : List Nat := if sl.openRecord.isSome = true then sl.requestReference.toList else []

/-- A segment's part after DISABLE PORT: an open exchange is counted CANCELLED (R109). -/
def SegState.cancelled (x : SegState) : SegState :=
  { x with
    slot := if x.slot = .outOfUse then .outOfUse else .free
    counters := if x.slot.openRecord.isSome = true then x.counters.bump .cancelled else x.counters }

/-- The notice of a cancelled exchange, where one is open (R109, R113). -/
def State.noticeCancelled (s : State) (sg : Seg) (open? : Option ExchangeRecord) : State :=
  match open? with
  | none => s
  | some r => s.noticeIf r.notice (r.noticeRequest sg .cancelled)

/-- A slot out of use is left as it is, and so is a count that nothing adds to. -/
theorem SegState.cancelled_outOfUse {x : SegState} (h : x.slot = .outOfUse) : x.cancelled = x := by
  unfold SegState.cancelled
  rw [if_pos h, if_neg (by simp [h, Slot.openRecord]), ← h]

theorem State.withSeg_twice (s : State) (sg : Seg) (x y : SegState) : (s.withSeg sg x).withSeg sg y = s.withSeg sg y := by
  simp [State.withSeg]

theorem State.withSeg_self (s : State) (sg : Seg) : s.withSeg sg (s.seg sg) = s := by
  rw [State.withSeg, State.seg, PerSeg.set_get_self]

/-- The slot is set, an open exchange's request dropped, and then its notice built (R109). -/
theorem State.cancelExchange_eq (s : State) (sg : Seg) :
    s.cancelExchange sg =
      ((s.withSeg sg (s.seg sg).cancelled).dropRefs (s.seg sg).slot.cancelled).noticeCancelled sg
        (s.seg sg).slot.openRecord := by
  unfold State.cancelExchange
  split
  · rename_i out
    rw [SegState.cancelled_outOfUse out, State.withSeg_self, out]
    rfl
  · rename_i used
    have freed : (s.seg sg).cancelled =
        { s.seg sg with
          slot := .free
          counters := if (s.seg sg).slot.openRecord.isSome = true then (s.seg sg).counters.bump .cancelled
            else (s.seg sg).counters } := by
      rw [SegState.cancelled, if_neg used]
    rw [freed, Slot.cancelled]
    cases (s.seg sg).slot.openRecord with
    | none => rfl
    | some r =>
      dsimp only
      rw [State.noticeIf_withSlot, State.dropRef?_withSlot, State.withSlot, State.countExchange_seg_self,
        State.dropRef?_eq, State.countExchange, State.withSeg_twice]
      rfl

/-! ### DISABLE PORT as a whole -/

/-- An enabled segment after DISABLE PORT, before a notice is built: the port halted, its buffers and the request's released in
the order of R110, lost replies settled, the slot closed. -/
def State.disabled (s : State) (sg : Seg) : State :=
  { s with
    pool := ((s.port (.seg sg)).freed ++ (s.seg sg).slot.cancelled).foldl Pool.drop s.pool
    agent := (s.agent.losing (s.port (.seg sg)).lane).losingOwed (.seg sg)
    ports := s.ports.set (.seg sg) (s.haltedPort (.seg sg))
    segs := s.segs.set sg (s.seg sg).cancelled }

section
variable {s : State} {sg : Seg}

theorem State.disableSegment_eq (enabled : (s.port (.seg sg)).enabled = true) :
    s.disableSegment sg = (s.disabled sg).noticeCancelled sg (s.seg sg).slot.openRecord := by
  rw [State.disableSegment, if_pos enabled, State.haltPort_eq, State.settleLost_eq, State.loseDeferred_eq,
    State.cancelExchange_eq]
  simp only [State.dropRefs_eq, State.withAgent_seg, State.withPool_seg, State.withPort_seg, State.withAgent_agent,
    State.withPool_agent, State.withPort_agent, State.withSeg_pool, State.withAgent_pool, State.withPool_pool,
    State.withPort_pool]
  refine congrArg (State.noticeCancelled · sg _) ?_
  simp only [State.withSeg, State.withAgent, State.withPool, State.withPort, State.disabled, List.foldl_append]

theorem State.noticeCancelled_nextReply (s : State) (sg : Seg) (open? : Option ExchangeRecord) :
    (s.noticeCancelled sg open?).agent.nextReply = s.agent.nextReply := by
  cases open? with
  | none => rfl
  | some r => exact congrArg Agent.nextReply (s.noticeIf_keeps _ _).2.2

theorem State.disabled_nextReply (s : State) (sg : Seg) : (s.disabled sg).agent.nextReply = s.agent.nextReply :=
  (Agent.losingOwed_nextReply _ _).trans (Agent.losing_nextReply _ _)

end

/-- Settles O42: a disabled segment is left alone; an enabled one is stopped, then the reply is offered, then a lost restart is
taken. -/
theorem disablePortStopsTheSegment : Obligations.DisablePortStopsTheSegment := by
  rintro s v w e rest n sg _ a b freed h idle body port rfl
  have permitted := State.permits_onlyIdle.mpr idle
  have readAs : oneByte? seg? (s.requestOf e).body = some sg := body ▸ seg?_eq_some.mpr port
  refine ⟨fun disabled => h.leaves ((State.checked_read permitted readAs).trans ?_), ?_⟩
  · have off : ¬ ((s.taken e).port (.seg sg)).enabled = true := by simp [disabled]
    rw [State.disableSegment, if_neg off, State.lostRestart, if_neg off]
    exact s.answerPlain_taken e _
  · intro enabled freedOf lost owed disabled offered
    have released : freed = (s.port (.seg sg)).freed ++ (s.seg sg).slot.cancelled := by
      rw [freedOf, PortState.freed]
      cases (s.port (.seg sg)).tx.state <;> rfl
    have before : v = (s.taken e).disabled sg := by
      rw [disabled, released, owed, lost]
      rfl
    have stopped : (s.taken e).disableSegment sg = v.noticeCancelled sg (s.seg sg).slot.openRecord := by
      rw [before]
      exact State.disableSegment_eq enabled
    have number : (v.noticeCancelled sg (s.seg sg).slot.openRecord).agent.nextReply = s.agent.nextReply := by
      rw [State.noticeCancelled_nextReply, before]
      exact (s.taken e).disabled_nextReply sg
    have answered : ((s.taken e).disableSegment sg).answerPlain (s.requestOf e) .done = w := by
      rw [stopped, State.answerPlain, s.answer_unmarked e number, offered]
      rfl
    have restart : (s.taken e).lostRestart sg = (s.port (.seg sg)).lane.bind (·.restart) := if_pos enabled
    refine h.leaves ⟨fun unmarked => (State.checked_read permitted readAs).trans ?_, fun f marked =>
      (State.checked_read permitted readAs).trans ?_⟩
    · rw [answered, restart, unmarked]
      rfl
    · rw [answered, restart, marked]
      rfl

end Sys2Proof.Machine
end

section
/-! SUPPORT. The records of chapter 9: the numbers and codes of 9.1, the settings block and the rule entry of 9.5, and what stands
at which offset of a record that is put together from parts. -/

namespace Sys2Proof.Machine

/-! ### Fields of a record -/

section
variable {record field : List Byte} {offset : Nat}

theorem fieldAt_append (before field after : List Byte) : fieldAt (before ++ (field ++ after)) before.length field := by
  simp [fieldAt]

/-- A field of a part of a record is a field of the record, behind what stands before the part. -/
theorem fieldAt_within (h : fieldAt record offset field) (before after : List Byte) :
    fieldAt (before ++ (record ++ after)) (before.length + offset) field := by
  have fits : field.length ≤ (record.drop offset).length := by
    have whole := congrArg List.length h
    rw [List.length_take] at whole
    omega
  rw [fieldAt, List.drop_append, List.drop_of_length_le (Nat.le_add_right _ _), Nat.add_sub_cancel_left, List.nil_append,
    List.drop_append, List.take_append_of_le_length fits]
  exact h

/-- In a run of pieces of one length, piece `i` stands at `i` times that length. -/
theorem fieldAt_flatMap {α : Type} {f : α → List Byte} {n : Nat} (length : ∀ a, (f a).length = n) {l : List α} {i : Nat} {a : α}
    (h : l[i]? = some a) : fieldAt (l.flatMap f) (n * i) (f a) := by
  induction l generalizing i with
  | nil => nomatch h
  | cons b l ih =>
    cases i with
    | zero =>
      obtain rfl : b = a := Option.some.inj h
      exact fieldAt_append [] (f b) (l.flatMap f)
    | succ i =>
      have later := fieldAt_within (ih h) (f b) []
      rw [length, List.append_nil, Nat.add_comm] at later
      exact later

end

theorem length_flatMap_const {α : Type} {f : α → List Byte} {n : Nat} (length : ∀ a, (f a).length = n) (l : List α) :
    (l.flatMap f).length = n * l.length := by
  simp [List.length_flatMap, length, Nat.mul_comm]

/-! ### Reply frames (R29, R124, R190) -/

/-- A frame that ends with its check passes it (R29). -/
theorem passesCheck_withCheck {bytes : List Byte} (h : bytes ≠ []) : passesCheck (withCheck bytes) = true := by
  have two : (checkBytes bytes).length = 2 := rfl
  have long : 3 ≤ bytes.length + 2 := Nat.add_le_add_right (List.length_pos_iff.mpr h) 2
  simp [passesCheck, withCheck, two, long]

theorem replyFrame_bytes (address code tag : Byte) (o : CommandOutcome) (body head : List Byte)
    (h : head = [address, code, tag, o.code] ++ (if o = .done then body else [])) :
    replyFrame address code tag o body = head ++ [((checkOf head) >>> 8).setWidth 8, (checkOf head).setWidth 8] ∧
      (o ≠ .done ∨ body = [] → (replyFrame address code tag o body).length = 6) ∧
      passesCheck (replyFrame address code tag o body) = true := by
  subst h
  refine ⟨rfl, fun bare => ?_, passesCheck_withCheck (by simp)⟩
  have empty : (if o = .done then body else []) = [] := by
    rcases bare with other | none
    · exact if_neg other
    · rw [none, ite_self]
  rw [replyFrame, empty]
  rfl

/-! ### Numbers and sets (9.1) -/

theorem be16_word {n : Nat} (h : n < 65536) : ∃ hi lo : Byte, be16 n = [hi, lo] ∧ 256 * hi.toNat + lo.toNat = n := by
  refine ⟨_, _, rfl, ?_⟩
  simp only [byteOf, BitVec.toNat_ofNat]
  omega

theorem be32_word (x : BitVec 32) :
    be32 x.toNat = [(x >>> 24).setWidth 8, (x >>> 16).setWidth 8, (x >>> 8).setWidth 8, x.setWidth 8] := by
  have byte (k : Nat) : byteOf (x.toNat / 2 ^ k) = (x >>> k).setWidth 8 := by
    apply BitVec.eq_of_toNat_eq
    simp [byteOf, Nat.shiftRight_eq_div_pow]
  have low : byteOf x.toNat = x.setWidth 8 := by
    apply BitVec.eq_of_toNat_eq
    simp [byteOf]
  rw [← byte 24, ← byte 16, ← byte 8, ← low]
  rfl

/-- The bits of a cause set (9.1). -/
theorem CauseSet.code_bit (x : CauseSet) :
    ∀ n < 8, x.code.getLsbD n = [x.pool, x.snapshot, x.exchange, x.store, x.restarted].getD n false := by
  have each : ∀ a b c d e : Bool, ∀ n < 8, (CauseSet.code ⟨a, b, c, d, e⟩).getLsbD n = [a, b, c, d, e].getD n false := by
    decide
  exact each _ _ _ _ _

/-! ### The settings block and the rule entry (9.5.1, 9.5.2) -/

theorem Settings.length_encode (st : Settings) : st.encode.length = 15 := by
  rw [Settings.encode]
  cases st.timing <;> rfl

theorem Settings.encode_fields (st : Settings) :
    fieldAt st.encode 0
      [st.role.code, byteOf st.rate, st.parity.code, if st.twoStops = true then 2#8 else 1#8, st.checkMode.code,
        byteOf st.gapHalf] ∧
    (st.timing = none → fieldAt st.encode 6 (List.replicate 8 255#8)) ∧
    (∀ t, st.timing = some t →
      fieldAt st.encode 6 (be16 t.guard) ∧ fieldAt st.encode 8 (be16 t.response) ∧ fieldAt st.encode 10 (be16 t.lapse) ∧
        fieldAt st.encode 12 (be16 t.settle)) ∧
    fieldAt st.encode 14 [yesNo st.mgmt] := by
  rw [Settings.encode]
  cases st.timing with
  | none => exact ⟨rfl, fun _ => rfl, nofun, rfl⟩
  | some t =>
    refine ⟨rfl, nofun, ?_, rfl⟩
    rintro _ ⟨⟩
    exact ⟨rfl, rfl, rfl, rfl⟩

/-- The bytes of one byte test (9.5.2). -/
def ByteTest.bytes (t : ByteTest) : List Byte := [byteOf t.offset, t.value, t.mask]

/-- The first eleven bytes of a rule entry (9.5.2). -/
def Rule.head (r : Rule) : List Byte :=
  [PortSet.code r.sources] ++ be16 r.minLength ++ be16 r.maxLength ++ r.action.encode ++ [byteOf r.tests.length]

theorem Rule.encode_eq (r : Rule) : r.encode = r.head ++ r.tests.flatMap ByteTest.bytes := rfl

theorem Rule.length_head (r : Rule) : r.head.length = 11 := by
  rw [Rule.head]
  cases r.action <;> rfl

theorem Rule.length_encode (r : Rule) : r.encode.length = 11 + 3 * r.tests.length := by
  rw [Rule.encode_eq, List.length_append, Rule.length_head, length_flatMap_const (n := 3) (fun _ => rfl)]

/-- A field of the entry's head is one of the entry. -/
theorem Rule.fieldAt_encode {r : Rule} {offset : Nat} {field : List Byte} (h : fieldAt r.head offset field) :
    fieldAt r.encode offset field := by
  have within := fieldAt_within h [] (r.tests.flatMap ByteTest.bytes)
  rwa [List.length_nil, Nat.zero_add] at within

theorem Rule.encode_fields (r : Rule) :
    fieldAt r.encode 0 [PortSet.code r.sources] ∧ fieldAt r.encode 1 (be16 r.minLength) ∧
    fieldAt r.encode 3 (be16 r.maxLength) ∧
    (r.action = .drop → fieldAt r.encode 5 [0#8, 255#8, 255#8, 255#8, 255#8]) ∧
    (∀ targets pr, r.action = .forward targets pr →
      fieldAt r.encode 5 [1#8, PortSet.code targets, pr.code, 255#8, 255#8]) ∧
    (∀ sg pr retries notice, r.action = .exchange sg pr retries notice →
      fieldAt r.encode 5 [2#8, byteOf sg.num, pr.code, byteOf retries, yesNo notice]) ∧
    fieldAt r.encode 10 [byteOf r.tests.length] ∧
    ∀ i t, r.tests[i]? = some t → fieldAt r.encode (11 + 3 * i) [byteOf t.offset, t.value, t.mask] := by
  have head {offset : Nat} {field : List Byte} (h : ∀ a, r.action = a →
      fieldAt ([PortSet.code r.sources] ++ be16 r.minLength ++ be16 r.maxLength ++ a.encode ++ [byteOf r.tests.length]) offset
        field) : fieldAt r.encode offset field := Rule.fieldAt_encode (h _ rfl)
  refine ⟨head fun _ _ => rfl, head fun _ _ => rfl, head fun _ _ => rfl, ?_, ?_, ?_, ?_, ?_⟩
  · intro drops
    exact head fun a here => by rw [← here, drops]; rfl
  · intro targets pr forwards
    exact head fun a here => by rw [← here, forwards]; rfl
  · intro sg pr retries notice exchanges
    exact head fun a here => by rw [← here, exchanges]; rfl
  · exact head fun a _ => by cases a <;> rfl
  · intro i t there
    have within := fieldAt_within (fieldAt_flatMap (f := ByteTest.bytes) (n := 3) (fun _ => rfl) there) r.head []
    rwa [List.append_nil, Rule.length_head] at within

end Sys2Proof.Machine
end

section
/-! SUPPORT. The records that the reading commands answer (9.5.1 to 9.5.7), by their lengths and fields, and the commands. -/

namespace Sys2Proof.Machine

/-! ### The status record (9.5.3) -/

theorem headStamp_eq (part : List Descriptor) :
    headStamp part = ((part.head?.map fun d => be32 d.enqueuedAt.toNat).getD [255#8, 255#8, 255#8, 255#8]) := by
  cases part <;> rfl

theorem length_headStamp (part : List Descriptor) : (headStamp part).length = 4 := by
  cases part <;> rfl

theorem PortState.laneCode_eq (x : PortState) :
    x.laneCode = if x.settings.role = .field then 255#8 else yesNo x.lane.isSome := by
  unfold PortState.laneCode
  cases x.settings.role <;> rfl

theorem PortState.length_statusBlock (x : PortState) : x.statusBlock.length = 17 := by
  simp [PortState.statusBlock, length_headStamp]

/-- What follows the five ports' blocks in the status record (9.5.3). -/
def State.statusTail (s : State) : List Byte :=
  [yesNo s.alertLane.isSome, (s.seg .seg1).slot.code, (s.seg .seg2).slot.code, (s.seg .seg3).slot.code,
      (s.seg .seg4).slot.code, byteOf s.pool.free.length, byteOf s.pool.watermark, s.alert.state.code, s.alert.sequence,
      s.alert.pendingCauses.code, s.store.code, s.agent.mode.code, byteOf s.agent.input.length,
      yesNo s.agent.deferred.isSome, yesNo s.agent.pendingAddress.isSome]
    ++ be32 s.timeBase.toNat

section
variable (s : State)

/-- The five ports' blocks (9.5.3). -/
def State.statusBlocks : List Byte := Port.list.flatMap fun p => (s.port p).statusBlock

theorem State.length_statusBlocks : s.statusBlocks.length = 85 :=
  length_flatMap_const (n := 17) (fun p => (s.port p).length_statusBlock) Port.list

theorem State.status_eq : s.status = s.statusBlocks ++ (s.statusTail ++ []) := by
  simp only [State.status, State.statusBlocks, State.statusTail, List.append_assoc, List.append_nil]
  rfl

theorem State.length_status : s.status.length = 104 := by
  rw [State.status_eq, List.length_append, State.length_statusBlocks]
  rfl

/-- A port stands in the list of the ports at its number. -/
theorem portList_getElem (p : Port) : Port.list[p.num]? = some p := by
  cases p with
  | trunk => rfl
  | seg sg => cases sg <;> rfl

theorem State.status_port (p : Port) : fieldAt s.status (17 * p.num) (s.port p).statusBlock := by
  have block := fieldAt_flatMap (f := fun p => (s.port p).statusBlock) (fun p => (s.port p).length_statusBlock)
    (portList_getElem p)
  have within := fieldAt_within block [] (s.statusTail ++ [])
  rwa [List.length_nil, Nat.zero_add, List.nil_append, ← State.statusBlocks, ← State.status_eq] at within

theorem State.status_tail : fieldAt s.status 85 s.statusTail := by
  have tail := fieldAt_append s.statusBlocks s.statusTail []
  rwa [State.length_statusBlocks, ← State.status_eq] at tail

/-! ### The reports of a port and of a rule (9.5.1, 9.5.2) -/

theorem State.portReport_eq (p : Port) :
    s.portReport p = [byteOf p.num, yesNo (s.port p).enabled] ++ (s.port p).settings.encode
      ++ [yesNo (s.port p).pendingSettings.isSome]
      ++ (((s.port p).pendingSettings.map Settings.encode).getD (List.replicate 15 255#8)) := by
  simp [State.portReport, PortRecord.encode, absent]

theorem State.length_portReport (p : Port) : (s.portReport p).length = 33 := by
  have pending : (((s.port p).pendingSettings.map Settings.encode).getD (List.replicate 15 255#8)).length = 15 := by
    cases (s.port p).pendingSettings with
    | none => rfl
    | some st => exact st.length_encode
  rw [State.portReport_eq]
  simp only [List.length_append, pending, Settings.length_encode]
  rfl

theorem Entry.length_report (e : Entry) (i : Nat) : (e.report i).length = 16 + 3 * e.rule.tests.length := by
  rw [Entry.report, List.length_cons, List.length_append, Rule.length_encode, length_be32]
  omega

/-! ### Hit counts (9.5.2) -/

section
variable {s} {first count : Nat}

theorem State.length_hitsReport (h : first + count ≤ s.rules.length) :
    (s.hitsReport first count).length = 1 + 4 * count := by
  have shown : ((s.rules.drop first).take count).length = count := by
    rw [List.length_take, List.length_drop]
    omega
  rw [State.hitsReport, List.length_cons, length_flatMap_const (n := 4) (fun _ => rfl), shown]
  omega

theorem State.hitsReport_count (h : first + count ≤ s.rules.length) {k : Nat} (shown : k < count) :
    fieldAt (s.hitsReport first count) (1 + 4 * k)
      (be32 (((s.rules.getD (first + k) none).map fun e => e.hits).getD 0#32).toNat) := by
  have inside : first + k < s.rules.length := by omega
  have there : ((s.rules.drop first).take count)[k]? = some (s.rules.getD (first + k) none) := by
    rw [List.getElem?_take_of_lt shown, List.getElem?_drop, List.getElem?_eq_getElem inside, List.getD_eq_getElem _ _ inside]
  have within := fieldAt_within (fieldAt_flatMap (f := fun e => be32 (hitsOf e).toNat) (n := 4) (fun _ => rfl) there)
    [byteOf count] []
  rw [List.append_nil] at within
  exact within

end

/-! ### Counters (9.5.4) -/

/-- The bytes of a run of counters (9.5.4). -/
def counterBytes (cs : List Count) : List Byte := cs.flatMap fun c => be32 c.toNat

theorem length_counterBytes (cs : List Count) : (counterBytes cs).length = 4 * cs.length :=
  length_flatMap_const (n := 4) (fun _ => rfl) cs

theorem counterBytes_count {cs : List Count} {i : Nat} {c : Count} (h : cs[i]? = some c) :
    fieldAt (counterBytes cs) (4 * i) (be32 c.toNat) :=
  fieldAt_flatMap (f := fun c : Count => be32 c.toNat) (fun _ => rfl) h

/-- What follows the counters in the record (9.5.4). -/
def State.countersTail : List Byte :=
  [byteOf s.pool.free.length, byteOf s.pool.watermark, s.store.code] ++ be32 s.store.bankA.eraseCount.toNat
    ++ be32 s.store.bankB.eraseCount.toNat

section
variable (p : Port)

theorem State.countersReport_eq :
    s.countersReport p = [byteOf p.num] ++ (counterBytes (s.port p).counters.inOrder ++
      (s.exchangeCountersReport p ++ (s.countersTail ++ []))) := by
  simp [State.countersReport, counterBytes, State.countersTail]

theorem State.length_exchangeCountersReport : (s.exchangeCountersReport p).length = 32 := by
  cases p <;> rfl

theorem PortCounters.length_bytes (c : PortCounters) : (counterBytes c.inOrder).length = 64 := length_counterBytes _

theorem State.length_countersReport : (s.countersReport p).length = 108 := by
  simp only [State.countersReport_eq, List.length_append, PortCounters.length_bytes, State.length_exchangeCountersReport]
  rfl

/-- The port counters stand in catalogue order (R150). -/
theorem State.countersReport_port {i : Nat} {c : Count} (h : (s.port p).counters.inOrder[i]? = some c) :
    fieldAt (s.countersReport p) (1 + 4 * i) (be32 c.toNat) := by
  rw [State.countersReport_eq]
  exact fieldAt_within (counterBytes_count h) [byteOf p.num] _

/-- The exchange counters' part of the record. -/
theorem State.countersReport_exchange {offset : Nat} {field : List Byte}
    (h : fieldAt (s.exchangeCountersReport p) offset field) : fieldAt (s.countersReport p) (65 + offset) field := by
  have within := fieldAt_within h ([byteOf p.num] ++ counterBytes (s.port p).counters.inOrder) (s.countersTail ++ [])
  rwa [List.append_assoc, ← State.countersReport_eq, List.length_append, PortCounters.length_bytes] at within

theorem State.countersReport_tail : fieldAt (s.countersReport p) 97 s.countersTail := by
  have tail := fieldAt_append ([byteOf p.num] ++ (counterBytes (s.port p).counters.inOrder ++ s.exchangeCountersReport p))
    s.countersTail []
  rw [List.append_assoc, List.append_assoc, ← State.countersReport_eq, List.length_append, List.length_append,
    PortCounters.length_bytes, State.length_exchangeCountersReport] at tail
  exact tail

end

/-- A port counter's place in the catalogue is its place in the record (R150). -/
theorem PortCounters.inOrder_getElem (c : PortCounters) {i : Nat} {k : PortCounter}
    (h : [PortCounter.rxframes, .txframes, .parity, .framing, .brk, .overlength, .checkfail, .nobuf, .unmatched, .misroute,
        .qfull, .aborted, .orphan, .noticelost, .agentbad, .agentovf][i]? = some k) : c.inOrder[i]? = some (c.get k) := by
  have mapped := congrArg (Option.map c.get) h
  rw [← List.getElem?_map] at mapped
  exact mapped

theorem ExchangeCounters.inOrder_getElem (c : ExchangeCounters) {i : Nat} {k : ExchangeCounter}
    (h : [ExchangeCounter.exchanges, .replied, .timeouts, .badreplies, .retries, .failed, .cancelled, .late][i]? = some k) :
    c.inOrder[i]? = some (c.get k) := by
  have mapped := congrArg (Option.map c.get) h
  rw [← List.getElem?_map] at mapped
  exact mapped

/-! ### Exchanges (9.5.5) -/

theorem length_recordBytes (r : Option ExchangeRecord) : (recordBytes r).length = 19 := by
  cases r with
  | none => rfl
  | some r =>
    rw [recordBytes]
    cases r.remaining <;> rfl

section
variable (sg : Seg)

/-- The five bytes before the exchange record (9.5.5). -/
def State.exchangeHead : List Byte :=
  [byteOf sg.num, (s.seg sg).slot.code, (s.seg sg).slot.kindCode] ++ be16 (s.seg sg).lastNumber.toNat

theorem State.exchangeReport_eq : s.exchangeReport sg = s.exchangeHead sg ++ recordBytes (s.slotRecord sg) := rfl

theorem State.length_exchangeReport : (s.exchangeReport sg).length = 24 := by
  rw [State.exchangeReport_eq, List.length_append, length_recordBytes]
  rfl

theorem State.exchangeReport_head : fieldAt (s.exchangeReport sg) 0 (s.exchangeHead sg) :=
  fieldAt_append [] (s.exchangeHead sg) _

theorem State.exchangeReport_record : fieldAt (s.exchangeReport sg) 5 (recordBytes (s.slotRecord sg)) := by
  have record := fieldAt_append (s.exchangeHead sg) (recordBytes (s.slotRecord sg)) []
  rwa [List.append_nil, ← State.exchangeReport_eq] at record

theorem Slot.kindCode_eq (sl : Slot) :
    sl.kindCode = match sl with
      | .sendingExchange _ => 0#8
      | .sendingNoAnswer => 1#8
      | _ => 255#8 := by
  cases sl <;> rfl

/-- A slot that holds nothing has no record (R88). -/
theorem State.slotRecord_none
    (h : (s.seg sg).slot ∈ [Slot.outOfUse, .free, .sendingNoAnswer] ∨ ∃ due, (s.seg sg).slot = .settling due) :
    s.slotRecord sg = none := by
  simp only [List.mem_cons, List.not_mem_nil, or_false] at h
  unfold State.slotRecord
  rcases h with (h | h | h) | ⟨due, h⟩ <;> rw [h]

/-- A slot's record; in AWAITING with the time that is left on the timer (R88, R116). -/
theorem State.slotRecord_some {r : ExchangeRecord}
    (h : (s.seg sg).slot = .sendingExchange r ∨ (s.seg sg).slot = .receiving r ∨ (∃ due, (s.seg sg).slot = .lapsed r due) ∨
        (s.seg sg).slot = .resend r ∨
        ∃ q due, (s.seg sg).slot = .awaiting q due ∧
          r = { q with remaining := some ((due - s.now) / Config.finePerMilli) }) :
    s.slotRecord sg = some r := by
  unfold State.slotRecord
  rcases h with h | h | ⟨due, h⟩ | h | ⟨q, due, h, rfl⟩ <;> rw [h]
  rfl

end

end

/-! ### The reading commands -/

theorem oneByte?_single {α : Type} {f : Byte → Option α} {body : List Byte} {n : Byte} {x : α} (single : body = [n])
    (read : f n = some x) : oneByte? f body = some x :=
  single ▸ read

theorem hitsRange?_eq_some {a n : Byte} (low : 1 ≤ n.toNat) (high : n.toNat ≤ 60) (inside : a.toNat + n.toNat ≤ 128) :
    hitsRange? [a, n] = some (a.toNat, n.toNat) := if_pos ⟨low, high, inside⟩

/-- A command that is read and permitted answers its record and does nothing else. -/
theorem State.checked_reports {s : State} {e : InputEntry} {α : Type} {k : Permit} {read : List Byte → Option α} {x : α}
    {record : α → List Byte} (permitted : s.permits k = true) (readAs : read (s.requestOf e).body = some x) :
    (s.taken e).checked (s.requestOf e) k read (fun x => (s.taken e).answer (s.requestOf e) .done (record x) none) =
      (s.taken e).replyOffered e.source (s.replyTo e .done (record x) none) :=
  (State.checked_read permitted readAs).trans (s.answer_taken e _ _)

/-- Settles O38: the frames, numbers and codes, then each record by its parts, then the commands. -/
theorem readingCommandsReportAndChangeNothing : Obligations.ReadingCommandsReportAndChangeNothing := by
  refine ⟨replyFrame_bytes, ?numbers, fun st => ⟨st.length_encode, st.encode_fields⟩,
    fun r => ⟨r.length_encode, r.encode_fields⟩, ?codes, fun x => ⟨x.length_status, fun p => ?_, x.status_tail⟩,
    fun x p => ⟨x.length_portReport p, x.portReport_eq p⟩, fun e i => ⟨e.length_report i, rfl⟩,
    fun x first count inside => ⟨State.length_hitsReport inside, rfl, fun k => State.hitsReport_count inside⟩,
    ?counters, ?exchanges, fun st => ⟨rfl, ?_⟩, ?commands⟩
  case numbers =>
    exact ⟨fun n small => Nat.mod_eq_of_lt small, fun n => be16_word, be32_word, rfl, rfl, rfl, by decide,
      CauseSet.code_bit, rfl, rfl, rfl, rfl, rfl, rfl⟩
  case codes =>
    refine ⟨rfl, rfl, rfl, fun _ _ => rfl, rfl, fun _ _ => ⟨rfl, rfl⟩, rfl, fun _ _ => rfl, rfl, fun _ _ => rfl, fun st => ?_⟩
    refine ⟨fun idle => ?_, ?_, ?_⟩
    · rw [Store.code, idle]
      simp
    · rintro ⟨j, committing⟩
      rw [Store.code, committing]
    · rintro (⟨src, loading⟩ | ⟨src, loading⟩)
      · rw [Store.code, loading]
      · rw [Store.code, loading]
  · have block := x.status_port p
    rwa [PortState.statusBlock, headStamp_eq, headStamp_eq, PortState.laneCode_eq] at block
  case counters =>
    refine fun x p => ⟨x.length_countersReport p, rfl, fun i k there => ?_, ?_, ?_, x.countersReport_tail p⟩
    · exact x.countersReport_port p (PortCounters.inOrder_getElem _ there)
    · rintro rfl
      exact x.countersReport_exchange .trunk (offset := 0) rfl
    · rintro sg i k rfl there
      exact x.countersReport_exchange (.seg sg) (counterBytes_count (ExchangeCounters.inOrder_getElem _ there))
  case exchanges =>
    refine fun x sg => ⟨x.length_exchangeReport sg, ?_, fun vacant => ?_, fun r holds => ?_⟩
    · have head := x.exchangeReport_head sg
      rwa [State.exchangeHead, Slot.kindCode_eq] at head
    · have record := x.exchangeReport_record sg
      rwa [State.slotRecord_none x sg vacant] at record
    · have record := x.exchangeReport_record sg
      rw [State.slotRecord_some x sg holds, recordBytes] at record
      exact record
  · simp [Store.report, Bank.report, Bank.generation]
  case commands =>
    rintro s _ i e rest _ _ h rfl rfl reads
    have loading : s.notLoading → _ := State.permits_notLoading.mpr
    refine h.leaves ?_
    rcases reads with ⟨rfl, empty, rfl⟩ | ⟨rfl, loaded, n, p, single, port, rfl⟩ |
      ⟨rfl, loaded, n, entry, single, index, valid, rfl⟩ | ⟨rfl, loaded, a, n, pair, low, high, inside, rfl⟩ |
      ⟨rfl, n, p, single, port, rfl⟩ | ⟨rfl, loaded, n, sg, single, port, rfl⟩ | ⟨rfl, empty, rfl⟩
    · exact State.checked_reports State.permits_always (emptyBody?_eq_some.mpr empty)
    · exact State.checked_reports (loading loaded) (oneByte?_single single port)
    · have here : s.rules.getD n.toNat none = some entry := by rw [List.getD_eq_getElem?_getD, valid]; rfl
      refine (State.checked_read (loading loaded) (oneByte?_single single (index?_of_lt index))).trans ?_
      rw [State.taken_rules, here]
      exact s.answer_taken e _ _
    · exact State.checked_reports (loading loaded) (pair ▸ hitsRange?_eq_some low high inside)
    · exact State.checked_reports State.permits_always (oneByte?_single single port)
    · exact State.checked_reports (loading loaded) (oneByte?_single single (seg?_eq_some.mpr port))
    · exact State.checked_reports State.permits_always (emptyBody?_eq_some.mpr empty)

end Sys2Proof.Machine
end

section
/-! SUPPORT. What the part says of itself as one value, `State.monitor`: every counter, the alert unit with the alert lane, and
whether a start-up load runs (R149 to R151, R159 to R170). The laws that chapter 7 states, read off it; and the operations that
leave it as it is, one equation for each. -/

namespace Sys2Proof.Machine

/-! ### The monitor -/

/-- The counters and the alert unit of the part. -/
structure Monitor where
  ports : Port → PortCounter → Count
  segs : Seg → ExchangeCounter → Count
  alert : AlertUnit
  lane : Option (List Byte)
  starting : Bool

/-- The store runs a start-up load (R184). -/
def StoreState.isStartup (st : StoreState) : Bool :=
  match st with
  | .startup _ => true
  | .idle | .committing _ | .loading _ => false

theorem StoreState.isStartup_iff {st : StoreState} : st.isStartup = true ↔ ∃ src, st = .startup src := by
  cases st <;> simp [StoreState.isStartup]

def State.monitor (s : State) : Monitor where
  ports p k := (s.port p).counters.get k
  segs sg k := (s.seg sg).counters.get k
  alert := s.alert
  lane := s.alertLane
  starting := s.store.state.isStartup

/-! ### The laws of chapter 7 -/

/-- No counter of `w` is below that of `v` (R149). -/
structure Monitor.CountsOn (v w : Monitor) : Prop where
  ports : ∀ p k, v.ports p k ≤ w.ports p k
  segs : ∀ sg k, v.segs sg k ≤ w.segs sg k

theorem Monitor.CountsOn.refl (v : Monitor) : v.CountsOn v := ⟨fun _ _ => BitVec.le_refl _, fun _ _ => BitVec.le_refl _⟩

theorem Monitor.CountsOn.of_eq {v w : Monitor} (ports : w.ports = v.ports) (segs : w.segs = v.segs) : v.CountsOn w :=
  ⟨fun _ _ => ports ▸ BitVec.le_refl _, fun _ _ => segs ▸ BitVec.le_refl _⟩

theorem Monitor.CountsOn.trans {v w x : Monitor} (h : v.CountsOn w) (k : w.CountsOn x) : v.CountsOn x :=
  ⟨fun p c => BitVec.le_trans (h.ports p c) (k.ports p c), fun sg c => BitVec.le_trans (h.segs sg c) (k.segs sg c)⟩

/-- The laws of the alert unit that hold in the midst of an event too (R159, R163, R164). -/
structure Monitor.Sound (v : Monitor) : Prop where
  consistent : v.alert.consistent
  lane : v.alert.repeatDue ≠ none → v.lane = none

/-- An alert may form (R161). -/
def Monitor.MayForm (v : Monitor) : Prop :=
  v.alert.state = .quiet ∧ v.alert.pendingCauses ≠ CauseSet.empty ∧ v.lane = none

/-- The laws of the alert unit between events: what may form has formed, but over a start-up load (R161, R170). -/
structure Monitor.Lawful (v : Monitor) : Prop extends v.Sound where
  formed : v.MayForm → v.starting = true

theorem Monitor.Sound.congr {v w : Monitor} (h : v.Sound) (alert : w.alert = v.alert) (lane : w.lane = v.lane) :
    w.Sound := by
  obtain ⟨consistent, empty⟩ := h
  exact ⟨alert ▸ consistent, by rw [alert, lane]; exact empty⟩

/-- The alert laws look at no counter, and a start-up load that begins only loosens them. -/
theorem Monitor.Lawful.congr {v w : Monitor} (h : v.Lawful) (alert : w.alert = v.alert) (lane : w.lane = v.lane)
    (starting : v.starting = true → w.starting = true) : w.Lawful := by
  refine ⟨h.toSound.congr alert lane, ?_⟩
  rw [Monitor.MayForm, alert, lane]
  exact fun may => starting (h.formed may)

/-- In OUTSTANDING and STALLED there is a current alert (R159). -/
theorem Monitor.Sound.present {v : Monitor} (h : v.Sound) (alerting : v.alert.state ≠ .quiet) : v.alert.current ≠ none :=
  mt h.consistent.1.mp alerting

/-- The repeat timer runs in OUTSTANDING alone (R164). -/
theorem Monitor.Sound.stopped {v : Monitor} (h : v.Sound) (other : v.alert.state ≠ .outstanding) : v.alert.repeatDue = none :=
  Classical.not_not.mp (mt h.consistent.2 other)

/-- A quiet unit without an alert and with its timer stopped keeps the laws of an event's midst. -/
theorem Monitor.Sound.of_quiet {v : Monitor} (quiet : v.alert.state = .quiet) (current : v.alert.current = none)
    (timer : v.alert.repeatDue = none) : v.Sound :=
  ⟨⟨iff_of_true current quiet, absurd timer⟩, absurd timer⟩

/-- In OUTSTANDING and STALLED the laws are about the current alert and the timer (R159, R164). -/
theorem Monitor.Sound.of_alerting {v : Monitor} (alerting : v.alert.state ≠ .quiet) (current : v.alert.current ≠ none)
    (timer : v.alert.repeatDue ≠ none → v.alert.state = .outstanding ∧ v.lane = none) : v.Sound :=
  ⟨⟨iff_of_false current alerting, fun runs => (timer runs).1⟩, fun runs => (timer runs).2⟩

/-- In OUTSTANDING and STALLED nothing may form (R161). -/
theorem Monitor.Sound.lawful {v : Monitor} (h : v.Sound) (alerting : v.alert.state ≠ .quiet) : v.Lawful :=
  ⟨h, fun may => absurd may.1 alerting⟩

/-- An alert unit that has been reset is lawful (R169). -/
theorem Monitor.Lawful.of_wiped {v : Monitor} (alert : v.alert = AlertUnit.wiped) : v.Lawful :=
  ⟨.of_quiet (alert ▸ rfl) (alert ▸ rfl) (alert ▸ rfl), fun may => absurd (alert ▸ rfl) may.2.1⟩

theorem State.alertMayForm_iff (s : State) : s.alertMayForm = true ↔ s.monitor.MayForm := by
  simp [State.alertMayForm, Monitor.MayForm, State.monitor, CauseSet.isEmpty, and_assoc]

theorem State.alertsOk_iff (s : State) : s.alertsOk ↔ s.monitor.Lawful := by
  constructor
  · rintro ⟨consistent, lane, formed⟩
    exact ⟨⟨consistent, lane⟩, fun may => StoreState.isStartup_iff.mpr (formed (s.alertMayForm_iff.mpr may))⟩
  · rintro ⟨⟨consistent, lane⟩, formed⟩
    exact ⟨consistent, lane, fun may => StoreState.isStartup_iff.mp (formed (s.alertMayForm_iff.mp may))⟩

/-! ### Updates of the state -/

section
variable {s : State} {p : Port} {sg : Seg}

/-- A change of a port beside its counters. -/
theorem State.withPort_monitor {x : PortState} (h : x.counters = (s.port p).counters) :
    (s.withPort p x).monitor = s.monitor := by
  have ports : (s.withPort p x).monitor.ports = s.monitor.ports := by
    funext q k
    by_cases hq : q = p
    · subst hq
      simp [State.monitor, h]
    · simp [State.monitor, hq]
  unfold State.monitor at ports ⊢
  rw [Monitor.mk.injEq]
  exact ⟨ports, rfl, rfl, rfl, rfl⟩

/-- A change of a segment beside its counters. -/
theorem State.withSeg_monitor {x : SegState} (h : x.counters = (s.seg sg).counters) :
    (s.withSeg sg x).monitor = s.monitor := by
  have segs : (s.withSeg sg x).monitor.segs = s.monitor.segs := by
    funext r k
    by_cases hr : r = sg
    · subst hr
      simp [State.monitor, h]
    · simp [State.monitor, hr]
  unfold State.monitor at segs ⊢
  rw [Monitor.mk.injEq]
  exact ⟨rfl, segs, rfl, rfl, rfl⟩

end

section
variable (s : State) (p : Port)

@[simp] theorem State.withPool_monitor (m : Pool) : (s.withPool m).monitor = s.monitor := rfl
@[simp] theorem State.withAgent_monitor (a : Agent) : (s.withAgent a).monitor = s.monitor := rfl
@[simp] theorem State.withRules_monitor (x : List (Option Entry)) : (s.withRules x).monitor = s.monitor := rfl
@[simp] theorem State.withAlert_monitor (a : AlertUnit) : (s.withAlert a).monitor = { s.monitor with alert := a } := rfl
@[simp] theorem State.withAlertLane_monitor (x : Option (List Byte)) :
    (s.withAlertLane x).monitor = { s.monitor with lane := x } := rfl
@[simp] theorem State.withStore_monitor (x : Store) :
    (s.withStore x).monitor = { s.monitor with starting := x.state.isStartup } := rfl
@[simp] theorem State.withRx_monitor (x : Receiver) : (s.withRx p x).monitor = s.monitor := State.withPort_monitor rfl
@[simp] theorem State.withTx_monitor (x : Transmitter) : (s.withTx p x).monitor = s.monitor := State.withPort_monitor rfl
@[simp] theorem State.withQueue_monitor (x : TxQueue) : (s.withQueue p x).monitor = s.monitor := State.withPort_monitor rfl
@[simp] theorem State.withLane_monitor (x : Option Reply) : (s.withLane p x).monitor = s.monitor := State.withPort_monitor rfl
@[simp] theorem State.withGuard_monitor (x : Option Nat) : (s.withGuard p x).monitor = s.monitor := State.withPort_monitor rfl
@[simp] theorem State.withPendingSettings_monitor (x : Option Settings) : (s.withPendingSettings p x).monitor = s.monitor :=
  State.withPort_monitor rfl
@[simp] theorem State.withSnapshot_monitor (x : Option Snapshot) : (s.withSnapshot p x).monitor = s.monitor :=
  State.withPort_monitor rfl
@[simp] theorem State.withSlot_monitor (sg : Seg) (x : Slot) : (s.withSlot sg x).monitor = s.monitor := State.withSeg_monitor rfl

/-- A change of the store that neither begins nor ends a start-up load. -/
theorem State.withStore_monitor_same {x : Store} (h : x.state.isStartup = s.store.state.isStartup) :
    (s.withStore x).monitor = s.monitor := by
  rw [State.withStore_monitor, h]
  rfl

@[simp] theorem State.dropRef_monitor (b : Nat) : (s.dropRef b).monitor = s.monitor := rfl

@[simp] theorem State.dropRef?_monitor (b : Option Nat) : (s.dropRef? b).monitor = s.monitor := by cases b <;> rfl

@[simp] theorem State.dropRefs_monitor (bs : List Nat) : (s.dropRefs bs).monitor = s.monitor := by
  rw [State.dropRefs_eq]
  rfl

@[simp] theorem State.enqueue_monitor (b : Nat) (k : DescriptorKind) (pr : Priority) :
    (s.enqueue p b k pr).monitor = s.monitor :=
  s.withQueue_monitor p _

theorem State.foldl_monitor {α : Type} {f : State → α → State} (hf : ∀ s a, (f s a).monitor = State.monitor s) (l : List α) :
    (l.foldl f s).monitor = s.monitor := by
  induction l generalizing s with
  | nil => rfl
  | cons a l ih => exact (ih _).trans (hf s a)

/-! ### Lines, slots and settings -/

@[simp] theorem State.startSending_monitor (cur : Current) : (s.startSending p cur).monitor = s.monitor :=
  State.withPort_monitor rfl

@[simp] theorem State.reportArrival_monitor : (s.reportArrival p).monitor = s.monitor := by
  unfold State.reportArrival
  split
  · rfl
  · split
    · simp
    · rfl

@[simp] theorem State.guardFromCharacter_monitor (t : Nat) : (s.guardFromCharacter p t).monitor = s.monitor := by
  cases p with
  | trunk => rfl
  | seg sg => exact s.withGuard_monitor _ _

@[simp] theorem State.takeCharacter_monitor (data : Byte) (parity framing : Bool) (t : Nat) :
    (s.takeCharacter p data parity framing t).monitor = s.monitor := by
  unfold State.takeCharacter
  split
  · rfl
  · rfl
  · rfl
  · unfold State.assemble
    split <;> simp
  all_goals simp

@[simp] theorem State.storeBreakByte_monitor (f : Assembly) : (s.storeBreakByte f).monitor = s.monitor := by
  unfold State.storeBreakByte
  split <;> rfl

@[simp] theorem State.slotSettles_monitor : (s.slotSettles p).monitor = s.monitor := by
  unfold State.slotSettles
  split
  · rfl
  · split
    · simp
    · rfl

@[simp] theorem State.slotAwaits_monitor (sg : Seg) (r : ExchangeRecord) : (s.slotAwaits sg r).monitor = s.monitor :=
  s.withSlot_monitor _ _

@[simp] theorem State.slotForRole_monitor (r : Role) : (s.slotForRole p r).monitor = s.monitor := by
  cases p with
  | trunk => rfl
  | seg sg => exact s.withSlot_monitor _ _

@[simp] theorem State.applyPending_monitor : (s.applyPending p).monitor = s.monitor := by
  unfold State.applyPending
  split
  · rfl
  · split
    · exact (State.slotForRole_monitor _ p _).trans (State.withPort_monitor rfl)
    · rfl

@[simp] theorem State.enablePort_monitor : (s.enablePort p).monitor = s.monitor := by
  unfold State.enablePort
  dsimp only
  split
  · rfl
  · exact (State.slotForRole_monitor _ p _).trans (State.withPort_monitor rfl)

@[simp] theorem State.placeRecords_monitor (ports : PerPort PortRecord) : (s.placeRecords ports).monitor = s.monitor :=
  s.foldl_monitor (fun s p => s.withPendingSettings_monitor p _) _

/-! ### Replies -/

@[simp] theorem State.settleAddress_monitor (id : Nat) : (s.settleAddress id).monitor = s.monitor := by
  rw [State.settleAddress_eq, State.withAgent_monitor]

@[simp] theorem State.laneFree_monitor : (s.laneFree p).monitor = s.monitor := by
  unfold State.laneFree
  split
  · simp
  · split
    · rfl
    · split
      · simp
      · rfl

/-- An offered reply changes the agent and a lane (R125). -/
@[simp] theorem State.replyOffered_monitor (r : Reply) : (s.replyOffered p r).monitor = s.monitor := by
  unfold State.replyOffered
  dsimp only
  split
  · rfl
  · split
    · exact s.withLane_monitor p (some r)
    · rfl

/-- A deferred reply carries no restart mark (R126). -/
@[simp] theorem State.offerDeferred_monitor (o : CommandOutcome) : (s.offerDeferred o).monitor = s.monitor := by
  have numbered : s.numberReply.monitor = s.monitor := rfl
  unfold State.offerDeferred
  split
  · rfl
  · dsimp only
    split
    · exact State.settleAddress_monitor _ _
    · split
      · simp [numbered]
      · rfl

/-- A reply without a restart mark is offered and nothing follows it. -/
@[simp] theorem State.answer_monitor (rq : Request) (o : CommandOutcome) (body : List Byte) :
    (s.answer rq o body none).monitor = s.monitor := by
  rw [State.answer, State.offerReply_eq, State.newReply, ite_self]
  exact s.replyOffered_monitor rq.source _

@[simp] theorem State.answerPlain_monitor (rq : Request) (o : CommandOutcome) : (s.answerPlain rq o).monitor = s.monitor :=
  s.answer_monitor rq o []

@[simp] theorem State.afterTake_monitor (e : InputEntry) : (s.afterTake e).monitor = s.monitor := rfl

end

end Sys2Proof.Machine
end

section
/-! SUPPORT. What an operation can do to the monitor, in three strengths: count (`State.Counts`), leave the alert unit to the
formation test at the event's end (`State.Reports`), and bring an event to its end (`State.Ends`). -/

namespace Sys2Proof.Machine

/-- `w` is `v` but for counters that have risen. -/
structure Monitor.Rises (v w : Monitor) : Prop extends v.CountsOn w where
  alert : w.alert = v.alert
  lane : w.lane = v.lane
  starting : w.starting = v.starting

theorem Monitor.Rises.sound {v w : Monitor} (h : v.Rises w) (sound : v.Sound) : w.Sound := sound.congr h.alert h.lane

theorem Monitor.Rises.lawful {v w : Monitor} (h : v.Rises w) (lawful : v.Lawful) : w.Lawful :=
  lawful.congr h.alert h.lane fun starting => h.starting.trans starting

/-- From `s` to `t` nothing but counters changes on the monitor, and none falls (R149). -/
def State.Counts (s t : State) : Prop := s.monitor.Rises t.monitor

/-- From `s` to `t` no counter falls, and the alert unit keeps the laws that hold in the midst of an event. -/
structure State.Reports (s t : State) : Prop where
  counts : s.monitor.CountsOn t.monitor
  sound : s.monitor.Sound → t.monitor.Sound

/-- From `s` to `t` no counter falls, and the alert unit keeps its laws. -/
structure State.Ends (s t : State) : Prop where
  counts : s.monitor.CountsOn t.monitor
  lawful : s.monitor.Lawful → t.monitor.Lawful

/-! ### How the three compose -/

section
variable {s u v : State}

theorem State.Counts.refl (s : State) : s.Counts s := ⟨.refl _, rfl, rfl, rfl⟩

theorem State.Counts.trans (h : s.Counts u) (k : u.Counts v) : s.Counts v :=
  ⟨h.toCountsOn.trans k.toCountsOn, k.alert.trans h.alert, k.lane.trans h.lane, k.starting.trans h.starting⟩

/-- An operation that leaves the monitor as it is. -/
theorem State.Counts.same (h : s.Counts u) (e : v.monitor = u.monitor) : s.Counts v := by
  rw [State.Counts, e]
  exact h

theorem State.Counts.foldl {α : Type} {f : State → α → State} (hf : ∀ u a, State.Counts u (f u a)) (h : s.Counts u)
    (l : List α) : s.Counts (l.foldl f u) := by
  induction l generalizing u with
  | nil => exact h
  | cons a l ih => exact ih (h.trans (hf u a))

theorem State.Counts.reports (h : s.Counts u) : s.Reports u := ⟨h.toCountsOn, h.sound⟩

theorem State.Counts.ends (h : s.Counts u) : s.Ends u := ⟨h.toCountsOn, h.lawful⟩

theorem State.Reports.refl (s : State) : s.Reports s := (State.Counts.refl s).reports

theorem State.Reports.trans (h : s.Reports u) (k : u.Reports v) : s.Reports v :=
  ⟨h.counts.trans k.counts, fun sound => k.sound (h.sound sound)⟩

theorem State.Reports.same (h : s.Reports u) (e : v.monitor = u.monitor) : s.Reports v :=
  h.trans ((State.Counts.refl u).same e).reports

/-- What leaves the monitor as it is ends an event. -/
theorem State.Ends.same (e : u.monitor = s.monitor) : s.Ends u := ((State.Counts.refl s).same e).ends

theorem State.Ends.refl (s : State) : s.Ends s := (State.Counts.refl s).ends

theorem State.Ends.trans (h : s.Ends u) (k : u.Ends v) : s.Ends v :=
  ⟨h.counts.trans k.counts, fun lawful => k.lawful (h.lawful lawful)⟩

end

/-! ### Counters -/

theorem PortCounters.get_le_bump (c : PortCounters) (k j : PortCounter) : c.get j ≤ (c.bump k).get j := by
  rw [PortCounters.get_bump]
  split
  · exact Count.le_bump _
  · exact BitVec.le_refl _

theorem PortCounters.get_le_bumpIf (c : PortCounters) (b : Bool) (k j : PortCounter) : c.get j ≤ (c.bumpIf b k).get j := by
  cases b with
  | false => exact BitVec.le_refl _
  | true => exact c.get_le_bump k j

theorem ExchangeCounters.get_le_bump (c : ExchangeCounters) (k j : ExchangeCounter) : c.get j ≤ (c.bump k).get j := by
  rw [ExchangeCounters.get_bump]
  split
  · exact Count.le_bump _
  · exact BitVec.le_refl _

section
variable {s u : State}

/-- A port set, none of whose counters has fallen. -/
theorem State.Counts.withPort (h : s.Counts u) {p : Port} {x : PortState}
    (hx : ∀ k, (u.port p).counters.get k ≤ x.counters.get k) : s.Counts (u.withPort p x) := by
  refine h.trans ⟨⟨fun q k => ?_, fun _ _ => BitVec.le_refl _⟩, rfl, rfl, rfl⟩
  show (u.port q).counters.get k ≤ ((u.withPort p x).port q).counters.get k
  by_cases hq : q = p
  · subst hq
    rw [State.withPort_port_self]
    exact hx k
  · rw [State.withPort_port_ne _ _ _ hq]
    exact BitVec.le_refl _

/-- A segment set, none of whose counters has fallen. -/
theorem State.Counts.withSeg (h : s.Counts u) {sg : Seg} {x : SegState}
    (hx : ∀ k, (u.seg sg).counters.get k ≤ x.counters.get k) : s.Counts (u.withSeg sg x) := by
  refine h.trans ⟨⟨fun _ _ => BitVec.le_refl _, fun r k => ?_⟩, rfl, rfl, rfl⟩
  show (u.seg r).counters.get k ≤ ((u.withSeg sg x).seg r).counters.get k
  by_cases hr : r = sg
  · subst hr
    rw [State.withSeg_seg_self]
    exact hx k
  · rw [State.withSeg_seg_ne _ _ _ hr]
    exact BitVec.le_refl _

theorem State.Counts.count (h : s.Counts u) (p : Port) (k : PortCounter) : s.Counts (u.count p k) :=
  h.withPort ((u.port p).counters.get_le_bump k)

theorem State.Counts.countExchange (h : s.Counts u) (sg : Seg) (k : ExchangeCounter) : s.Counts (u.countExchange sg k) :=
  h.withSeg ((u.seg sg).counters.get_le_bump k)

theorem State.Counts.countIf (h : s.Counts u) (b : Bool) (p : Port) (k : PortCounter) : s.Counts (u.countIf b p k) := by
  cases b with
  | false => exact h
  | true => exact h.count p k

theorem State.Counts.countErrors (h : s.Counts u) (p : Port) (e : ErrorSet) : s.Counts (u.countErrors p e) :=
  ((((h.countIf _ p _).countIf _ p _).countIf _ p _).countIf _ p _).countIf _ p _

/-! ### Operations that count and nothing else -/

/-- A lost notice is counted; one that is queued is not (R114). -/
theorem State.Counts.buildNotice (h : s.Counts u) (n : NoticeRequest) : s.Counts (u.buildNotice n) := by
  cases reserved : u.pool.reserve with
  | none =>
    rw [State.buildNotice_noBuffer reserved]
    exact h.count _ _
  | some bm =>
    by_cases accepted : u.offerAnswer n.origin = .accepted
    · rw [State.buildNotice_accepted reserved accepted]
      exact h.same (by simp)
    · rw [State.buildNotice_refused reserved accepted]
      exact State.Counts.count (h.same (by simp)) _ _

theorem State.Counts.noticeIf (h : s.Counts u) (flag : Bool) (n : NoticeRequest) : s.Counts (u.noticeIf flag n) := by
  cases flag with
  | false => exact h
  | true => exact h.buildNotice n

/-- A refused answer is counted ORPHAN or QFULL (R98, R99). -/
theorem State.Counts.offerAnswerFrame (h : s.Counts u) (sg : Seg) (r : ExchangeRecord) (b : Nat) :
    s.Counts (u.offerAnswerFrame sg r b) := by
  unfold State.offerAnswerFrame
  split
  · exact h.same (by simp)
  · exact (h.count (.seg sg) .orphan).same rfl
  · exact (h.count r.origin .qfull).same rfl

theorem State.Counts.exchangeReplied (h : s.Counts u) (sg : Seg) (r : ExchangeRecord) (b : Nat) :
    s.Counts (u.exchangeReplied sg r b) :=
  ((h.countExchange sg .replied).offerAnswerFrame sg r b).same (by simp [State.exchangeReplied])

/-- One FORWARD target is offered the frame, or MISROUTE or QFULL is counted (R66). -/
theorem State.Counts.forwardTo (h : s.Counts u) (src : Port) (b : Nat) (pr : Priority) (q : Port) :
    s.Counts (u.forwardTo src b pr q) := by
  unfold State.forwardTo
  split
  · exact h.same (by simp)
  · exact h.count _ _
  · exact h.count _ _

/-- A refused EXCHANGE is counted before its notice (R68 to R70). -/
theorem State.Counts.dispatchExchange (h : s.Counts u) (src : Port) (b i : Nat) (sg : Seg) (pr : Priority) (n : Nat)
    (flag : Bool) : s.Counts (u.dispatchExchange src b i sg pr n flag) := by
  have refused (p : Port) (k : PortCounter) : s.Counts ((u.count p k).dropRef b) := (h.count p k).same (by simp)
  unfold State.dispatchExchange
  dsimp only
  split
  · split
    · exact h.same (by simp)
    · exact (refused _ _).noticeIf _ _
    · exact (refused _ _).noticeIf _ _
  · exact (refused _ _).noticeIf _ _

theorem State.Counts.dispatch (h : s.Counts u) (src : Port) (b i : Nat) (a : Action) : s.Counts (u.dispatch src b i a) := by
  cases a with
  | drop => exact h.same rfl
  | forward targets pr =>
    exact (h.foldl (fun u q => (State.Counts.refl u).forwardTo src b pr q) (effectiveTargets targets src)).same rfl
  | exchange target pr retries notice => exact h.dispatchExchange src b i target pr retries notice

theorem State.Counts.classify (h : s.Counts u) (src : Port) (b : Nat) : s.Counts (u.classify src b) := by
  unfold State.classify
  split
  · exact (h.count _ _).same rfl
  · exact State.Counts.dispatch (h.same (by simp)) src b _ _

theorem State.Counts.joinInput (h : s.Counts u) (p : Port) (b : Nat) : s.Counts (u.joinInput p b) := by
  unfold State.joinInput
  split
  · exact h.same (by simp)
  · exact (h.count p _).same rfl

/-- A port that has sent counts TXFRAMES (R82). -/
theorem State.sent_counts (s : State) (p : Port) : s.Counts (s.sent p) := by
  have afterSend : ((s.port p).afterSend p s.now).counters = (s.port p).counters := by
    unfold PortState.afterSend
    split
    · rfl
    · split <;> rfl
  rw [← State.sent_eq]
  exact ((State.Counts.refl s).same (State.withPort_monitor afterSend)).count p _

/-! ### What follows within an event -/

/-- An exchange that opens is counted (R90, R92). -/
theorem State.Counts.openExchange (h : s.Counts u) (sg : Seg) (d : Descriptor) (x : ExchangeParams) :
    s.Counts (u.openExchange sg d x) :=
  State.Counts.countExchange (h.same (State.withSeg_monitor (by rfl))) sg .exchanges

theorem State.Counts.reportTake (h : s.Counts u) (p : Port) (d : Descriptor) : s.Counts (u.reportTake p d) := by
  unfold State.reportTake
  split
  · exact h
  · split
    · exact h
    · split
      · exact h.openExchange _ d _
      all_goals exact h.same (by simp)

theorem State.Counts.begin (h : s.Counts u) (p : Port) (c : Choice) : s.Counts (u.begin p c) := by
  cases c with
  | retry r =>
    unfold State.begin State.startRetry
    dsimp only
    split
    · exact h.same (by simp)
    · exact h
  | reply => exact h.same (u.startSending_monitor p _)
  | alert => exact h.same (u.startSending_monitor p _)
  | take d rest =>
    exact State.Counts.reportTake (u := (u.withQueue p rest).startSending p (.descriptor d)) (h.same (by simp)) p d

theorem State.startPort_counts (s : State) (p : Port) : s.Counts (s.startPort p) := by
  have begun : s.Counts s := .refl s
  unfold State.startPort
  split
  · exact begun
  · exact begun
  all_goals
    split
    · exact begun
    · split
      · exact begun.begin p _
      · exact begun.same (s.withTx_monitor p _)

theorem State.Counts.followUp (h : s.Counts u) : s.Counts u.followUp :=
  (h.foldl State.startPort_counts Port.list).foldl
    (fun u p => (State.Counts.refl u).same (u.applyPending_monitor p)) Port.list

theorem State.Ends.followUp (h : s.Ends u) : s.Ends u.followUp := h.trans (State.Counts.refl u).followUp.ends

end

/-! ### Causes and the formation test -/

section
variable {s u : State}

/-- A raised cause waits for the formation test (R160). -/
theorem State.Reports.raiseCause (h : s.Reports u) (k : Cause) : s.Reports (u.raiseCause k) := by
  refine h.trans ?_
  unfold State.raiseCause
  split
  · exact ⟨.of_eq rfl rfl, fun sound => ⟨sound.consistent, sound.lane⟩⟩
  · exact .refl u

/-- After the formation test nothing may form any longer (R161). -/
theorem State.formAlert_formed (s : State) : ¬ s.formAlert.monitor.MayForm := by
  unfold State.formAlert
  split
  · exact fun may => nomatch may.1
  · rename_i idle
    exact fun may => idle (s.alertMayForm_iff.mpr may)

theorem State.formAlert_lawful (sound : s.monitor.Sound) : s.formAlert.monitor.Lawful := by
  refine ⟨?_, fun may => absurd may s.formAlert_formed⟩
  unfold State.formAlert
  split
  · exact .of_alerting nofun nofun (absurd rfl)
  · exact sound

theorem State.formAlert_counts (s : State) : s.monitor.CountsOn s.formAlert.monitor := by
  unfold State.formAlert
  split
  · exact .of_eq rfl rfl
  · exact .refl _

theorem State.Reports.formAlert (h : s.Reports u) : s.Ends u.formAlert :=
  ⟨h.counts.trans u.formAlert_counts, fun lawful => State.formAlert_lawful (h.sound lawful.toSound)⟩

/-- An event that may raise causes ends with the formation test and what follows (R160, R161). -/
theorem State.Reports.finish (h : s.Reports u) : s.Ends u.finish := h.formAlert.followUp

theorem State.Reports.offerSnapshot (h : s.Reports u) (p : Port) (k : SnapshotKind) (stamp : Stamp) (n : Nat)
    (bytes : List Byte) : s.Reports (u.offerSnapshot p k stamp n bytes) := by
  unfold State.offerSnapshot
  split
  · exact State.Reports.raiseCause (h.same (by simp)) _
  · exact h.same (by simp)

/-- A STALLED alert that is placed again is OUTSTANDING, and its repeat timer does not run yet (R165). -/
theorem State.Reports.reportManagement (h : s.Reports u) (p : Port) : s.Reports (u.reportManagement p) := by
  refine h.trans ?_
  rw [State.reportManagement_eq]
  split
  · rename_i stalled
    obtain ⟨_, stalled⟩ := stalled
    have alerting : u.monitor.alert.state ≠ .quiet := fun quiet => nomatch stalled.symm.trans quiet
    have waiting : u.monitor.alert.state ≠ .outstanding := fun other => nomatch stalled.symm.trans other
    refine ⟨.of_eq rfl rfl, fun sound => .of_alerting nofun (sound.present alerting) fun runs => ?_⟩
    exact absurd (sound.stopped waiting) runs
  · exact .refl u

/-! ### Failed attempts -/

/-- A failed attempt counts RETRIES, or FAILED with the cause EXCHANGE (R102, R103). -/
theorem State.Counts.failAttempt (h : s.Counts u) (sg : Seg) (r : ExchangeRecord) : s.Reports (u.failAttempt sg r) := by
  unfold State.failAttempt
  split
  · exact ((h.countExchange sg .retries).same (State.withSlot_monitor _ _ _)).reports
  · have released : s.Counts ((u.countExchange sg .failed).dropRef? r.buffer) := (h.countExchange sg .failed).same (by simp)
    exact ((released.noticeIf _ _).reports.raiseCause .exchange).same (State.withSlot_monitor _ _ _)

theorem State.Reports.attemptTimedOut (h : s.Reports u) (sg : Seg) (r : ExchangeRecord) : s.Reports (u.attemptTimedOut sg r) :=
  h.trans (((State.Counts.refl u).countExchange sg _).failAttempt sg _)

theorem State.Reports.attemptBadReply (h : s.Reports u) (sg : Seg) (r : ExchangeRecord) : s.Reports (u.attemptBadReply sg r) :=
  h.trans (((State.Counts.refl u).countExchange sg _).failAttempt sg _)

end
end Sys2Proof.Machine
end

section
/-! SUPPORT. The events of the lines, the timers and the store keep the laws of chapter 7 (R149, R159 to R165). -/

namespace Sys2Proof.Machine

/-! ### Completed frames -/

section
variable (s : State) (p : Port) (b : Nat)

theorem State.routeOrdinary_reports : s.Reports (s.routeOrdinary p b) := by
  unfold State.routeOrdinary
  split
  · exact ((State.Reports.refl s).reportManagement p).trans ((State.Counts.refl _).joinInput p b).reports
  · exact ((State.Counts.refl s).classify p b).reports

/-- A bad answer's buffer is released before its attempt fails (R100, log 19). -/
theorem State.badAnswer_reports (sg : Seg) (r : ExchangeRecord) : s.Reports ((s.dropRef b).attemptBadReply sg r) :=
  ((State.Reports.refl s).same (s.dropRef_monitor b)).attemptBadReply sg r

theorem State.judgeAnswer_reports (sg : Seg) (r : ExchangeRecord) : s.Reports (s.judgeAnswer sg r b) := by
  unfold State.judgeAnswer
  split
  · exact ((State.Counts.refl s).exchangeReplied sg r b).reports
  · exact s.badAnswer_reports b sg r

theorem State.judgeLate_reports (sg : Seg) (r : ExchangeRecord) : s.Reports (s.judgeLate sg r b) := by
  unfold State.judgeLate
  split
  · exact (((State.Counts.refl s).countExchange sg .late).same (State.dropRef_monitor _ b)).reports
  · exact ((State.Counts.refl s).classify _ b).reports

theorem State.routeClean_reports : s.Reports (s.routeClean p b) := by
  unfold State.routeClean
  split
  · exact s.routeOrdinary_reports _ b
  · split
    · exact s.judgeAnswer_reports b _ _
    · exact s.judgeLate_reports b _ _
    · exact s.routeOrdinary_reports _ b

theorem State.dropOrFailAttempt_reports : s.Reports (s.dropOrFailAttempt p b) := by
  have dropped : s.Reports (s.dropRef b) := (State.Reports.refl s).same (s.dropRef_monitor b)
  unfold State.dropOrFailAttempt
  split
  · exact dropped
  · split
    · exact s.badAnswer_reports b _ _
    · exact dropped

/-- An errored frame counts its kinds and is offered to the snapshot before its buffer goes (R31, R155 to R157). -/
theorem State.routeErrored_reports (e : ErrorSet) (stamp : Stamp) : s.Reports (s.routeErrored p b e stamp) :=
  (((State.Counts.refl s).countErrors p e).reports.offerSnapshot p _ _ _ _).trans (State.dropOrFailAttempt_reports _ p b)

theorem State.complete_reports (f : Assembly) : s.Reports (s.complete p f) := by
  have noted : s.Counts (s.withPool (s.pool.setLength f.buffer f.length)) := .refl s
  have counted := (noted.count p .rxframes).reports
  unfold State.complete
  dsimp only
  split
  · exact counted.trans (State.routeClean_reports _ p _)
  · exact counted.trans (State.routeErrored_reports _ p _ _ _)

/-! ### The lines -/

/-- An arrival that finds no buffer counts NOBUF and raises its causes (R25, R156). -/
theorem State.arriveIdle_ends : s.Ends (s.arriveIdle p) := by
  unfold State.arriveIdle
  dsimp only
  split
  · exact .same (by simp)
  · have refused (rx : Receiver) : s.Counts ((s.withRx p rx).count p .nobuf) :=
      State.Counts.count ((State.Counts.refl s).same (s.withRx_monitor p rx)) p .nobuf
    exact ((((refused _).reports.offerSnapshot p _ _ _ _).raiseCause .pool).same (State.reportArrival_monitor _ p)).finish

theorem State.arrive_ends : s.Ends (s.arrive p) := by
  unfold State.arrive
  dsimp only
  split
  · exact .refl s
  · split
    · exact .refl s
    · exact .refl s
    · exact s.arriveIdle_ends p
    · exact .same (s.withRx_monitor p _)
    · exact .same (s.withRx_monitor p _)

theorem State.receive_ends (data : Byte) (parityBit stopBit : Bool) : s.Ends (s.receive p data parityBit stopBit) := by
  unfold State.receive
  dsimp only
  split
  · exact .refl s
  · split
    · exact .same (s.withRx_monitor p _)
    · exact .same (s.takeCharacter_monitor p _ _ _ _)

theorem State.releaseHeld_ends : s.Ends (s.releaseHeld p) := by
  unfold State.releaseHeld
  split
  · exact .refl s
  · exact .same (s.takeCharacter_monitor p _ _ _ _)

theorem State.declareBreak_ends : s.Ends (s.declareBreak p) := by
  have broken (u : State) (f : Assembly) (e : u.monitor = s.monitor) : s.Ends (u.complete p f).finish :=
    (((State.Reports.refl s).same e).trans (u.complete_reports p f)).finish
  unfold State.declareBreak
  split
  · exact .refl s
  · split
    · exact .refl s
    · exact .refl s
    · exact .refl s
    · exact broken _ _ (by simp)
    · exact broken _ _ (s.withRx_monitor p _)
    · exact .same (s.withRx_monitor p _)
    · exact .same (s.withRx_monitor p _)

theorem State.lineHigh_ends : s.Ends (s.lineHigh p) := by
  unfold State.lineHigh
  split
  · exact .same (s.withRx_monitor p _)
  · exact .refl s

theorem State.reportDiscardEnd_reports : s.Reports (s.reportDiscardEnd p) := by
  unfold State.reportDiscardEnd
  split
  · exact .refl s
  · split
    · exact (State.Reports.refl s).attemptBadReply _ _
    · exact .refl s

theorem State.gapExpires_ends : s.Ends (s.gapExpires p) := by
  have idle : s.Reports (s.withRx p (Receiver.fresh .idle)) := (State.Reports.refl s).same (s.withRx_monitor p _)
  unfold State.gapExpires
  split
  · split
    · exact .refl s
    · exact .refl s
    · exact .refl s
    · exact (idle.trans (State.complete_reports _ p _)).finish
    · exact (idle.trans (State.complete_reports _ p _)).finish
    · exact (idle.trans (State.reportDiscardEnd_reports _ p)).finish
    · exact idle.finish
  · exact .refl s

end

/-! ### Guard and timers -/

section
variable (s : State) (sg : Seg)

theorem State.guardExpires_ends (edgeInside : Bool) : s.Ends (s.guardExpires sg edgeInside) := by
  unfold State.guardExpires
  split
  · exact .refl s
  · exact .refl s
  all_goals
    split
    · exact .same (s.withGuard_monitor _ _)
    · exact State.Ends.followUp (.same (State.withPort_monitor rfl))

theorem State.responseExpires_ends : s.Ends (s.responseExpires sg) := by
  unfold State.responseExpires
  split
  · exact ((State.Reports.refl s).attemptTimedOut sg _).finish
  · exact .refl s

theorem State.lapseExpires_ends : s.Ends (s.lapseExpires sg) := by
  unfold State.lapseExpires
  split
  · exact State.Ends.followUp (.same (s.withSlot_monitor sg _))
  · exact .refl s

theorem State.settleExpires_ends : s.Ends (s.settleExpires sg) := by
  unfold State.settleExpires
  split
  · exact State.Ends.followUp (.same (s.withSlot_monitor sg _))
  · exact .refl s

/-! ### The alert unit's own events -/

/-- The lane's send end starts the repeat timer over an empty lane, or applies the formation test (R163). -/
theorem State.finishAlert_ends : s.Ends s.finishAlert := by
  unfold State.finishAlert
  split
  · rename_i outstanding
    have alerting : s.monitor.alert.state ≠ .quiet := fun quiet => nomatch outstanding.symm.trans quiet
    exact ⟨.of_eq rfl rfl, fun lawful =>
      Monitor.Sound.lawful (.of_alerting alerting (lawful.present alerting) fun _ => ⟨outstanding, rfl⟩) alerting⟩
  · exact State.Reports.formAlert ⟨.of_eq rfl rfl, fun sound => ⟨sound.consistent, fun _ => rfl⟩⟩
  · rename_i stalled
    have alerting : s.monitor.alert.state ≠ .quiet := fun quiet => nomatch stalled.symm.trans quiet
    have waiting : s.monitor.alert.state ≠ .outstanding := fun other => nomatch stalled.symm.trans other
    exact ⟨.of_eq rfl rfl, fun lawful => Monitor.Sound.lawful (.of_alerting alerting (lawful.present alerting) fun runs =>
      absurd (lawful.stopped waiting) runs) alerting⟩

/-- An alert is placed again with its repeat timer stopped, or it stalls (R164). -/
theorem State.repeatExpires_ends : s.Ends s.repeatExpires := by
  unfold State.repeatExpires
  split
  · rename_i due outstanding
    have alerting : s.monitor.alert.state ≠ .quiet := fun quiet => nomatch outstanding.symm.trans quiet
    split
    · have again (lane : Option (List Byte)) : s.Ends
          ((s.withAlert { s.alert with repeatCount := s.alert.repeatCount + 1, repeatDue := none }).withAlertLane lane) :=
        ⟨.of_eq rfl rfl, fun lawful =>
          Monitor.Sound.lawful (.of_alerting alerting (lawful.present alerting) (absurd rfl)) alerting⟩
      refine State.Ends.followUp ?_
      unfold State.placeCurrentAlert
      split
      · exact again s.alertLane
      · exact again _
    · exact ⟨.of_eq rfl rfl, fun lawful => Monitor.Sound.lawful (.of_alerting nofun (lawful.present alerting) (absurd rfl)) nofun⟩
  · exact .refl s

end

/-! ### The store's completions -/

section
variable (s : State)

theorem State.commitCompletes_ends (wrong : List (Nat × Byte)) : s.Ends (s.commitCompletes wrong) := by
  unfold State.commitCompletes
  split
  · rename_i j committing
    have ended (o : CommandOutcome) : ((s.endCommit j wrong).offerDeferred o).monitor = s.monitor := by
      rw [State.offerDeferred_monitor]
      exact s.withStore_monitor_same (by rw [committing]; rfl)
    split
    · exact State.Ends.followUp (.same (ended _))
    · exact (((State.Reports.refl s).same (ended _)).raiseCause .store).finish
  all_goals exact .refl s

theorem State.loadCompletes_ends : s.Ends s.loadCompletes := by
  unfold State.loadCompletes
  split
  · rename_i src loading
    refine State.Ends.followUp (.same ?_)
    rw [State.placeRecords_monitor, State.withRules_monitor, State.offerDeferred_monitor]
    exact s.withStore_monitor_same (x := { s.store with state := .idle }) (by rw [loading]; rfl)
  all_goals exact .refl s

/-- Once the formation test has been applied the store may be in any state (R161, R185). -/
theorem State.Reports.formed_withStore {s u v : State} (h : s.Reports u) (same : v.monitor = u.formAlert.monitor) (x : Store) :
    s.Ends (v.withStore x) := by
  have formed : ¬ v.monitor.MayForm := same ▸ u.formAlert_formed
  obtain ⟨counts, lawful⟩ := h.formAlert
  rw [← same] at counts lawful
  exact ⟨counts.trans (.of_eq rfl rfl), fun before => ⟨(lawful before).toSound.congr rfl rfl, fun may => absurd may formed⟩⟩

/-- The start-up load forms the alert that waited for it before the store is IDLE (R170, R185). -/
theorem State.applyStartup_ends (pr : Profile) : s.Ends (s.applyStartup pr) := by
  have up (u : State) (p : Port) (r : PortRecord) : (u.bringUp p r).monitor = u.monitor :=
    (State.slotForRole_monitor _ p _).trans (State.withPort_monitor rfl)
  unfold State.applyStartup
  dsimp only
  refine State.Reports.formed_withStore (State.Reports.raiseCause ?_ .restarted) (State.foldl_monitor _ (fun u p => up u p _) _) _
  exact (State.Reports.refl s).same rfl

theorem State.startupCompletes_ends : s.Ends s.startupCompletes := by
  unfold State.startupCompletes
  split
  · exact (s.applyStartup_ends _).followUp
  all_goals exact .refl s

end

end Sys2Proof.Machine
end

section
/-! SUPPORT. Resets and the agent's commands under the laws of chapter 7: a WARM reset keeps the counters, a reset of a cold kind
leaves a quiet alert unit, and a command counts or takes the reset of a RESTART (R121, R147, R153, R169, R170). -/

namespace Sys2Proof.Machine

/-! ### Resets -/

section
variable {s t u : State}

/-- A part that has been reset is quiet (R169). -/
theorem State.ColdResetOf.lawful {k : ResetCause} (h : s.ColdResetOf t k) : t.monitor.Lawful := .of_wiped h.alert.1

/-- A reset of a cold kind taken in a state with the same bytes and banks (R20). -/
theorem State.ColdResetOf.of_storage {w : State} {k : ResetCause} (h : w.ColdResetOf t k) (ram : w.pool.ram = s.pool.ram)
    (store : w.store = s.store) : s.ColdResetOf t k :=
  { h with
    bytes := h.bytes.trans ram
    banks := store ▸ h.banks }

/-- A start-up load that begins leaves the alert unit as it is (R184). -/
theorem State.Ends.leaveReset (h : s.Ends u) : s.Ends u.leaveReset := by
  unfold State.leaveReset
  split
  · exact h
  · exact h.trans ⟨.of_eq rfl rfl, fun lawful => lawful.congr rfl rfl fun _ => rfl⟩

/-- A WARM reset counts what it cuts, and drops the current alert (R21, R118, R170). -/
theorem State.Counts.warmReset (h : s.Counts u) : s.Ends u.warmReset := by
  have reset := u.warmReset_warmResetOf
  have counts : u.monitor.CountsOn u.warmReset.monitor := by
    refine ⟨fun p k => ?_, fun sg k => ?_⟩
    · show (u.port p).counters.get k ≤ (u.warmReset.port p).counters.get k
      rw [reset.ports p]
      exact (u.port p).counters.get_le_bumpIf _ _ k
    · show (u.seg sg).counters.get k ≤ (u.warmReset.seg sg).counters.get k
      rw [reset.segs sg]
      dsimp only
      split
      · exact (u.seg sg).counters.get_le_bump _ k
      · exact BitVec.le_refl _
  exact ⟨h.toCountsOn.trans counts, fun _ => ⟨.of_quiet rfl rfl rfl, fun _ => rfl⟩⟩

/-- An event that may take the reset of a RESTART counts, or wipes the part (R147). -/
theorem State.Counts.restartIf (h : s.Counts u) (f : Option RestartForm) :
    s.Ends (u.restartIf f).followUp ∨ (u.restartIf f).followUp = u.coldReset := by
  rcases f with _ | _ | _
  · exact .inl h.followUp.ends
  · exact .inr (State.followUp_off fun p => (u.coldReset_coldResetOf.stopped p).2)
  · exact .inl h.warmReset.followUp

/-! ### The taking of a command -/

/-- A command that is taken is carried out on the state without its frame; one that is not does nothing but count (R121). -/
theorem State.takeCommand_cases (s : State) (i : Instr) (f : Request → State → State) :
    s.Ends (s.takeCommand i f) ∨ ∃ rq e, s.takeCommand i f = (f rq (s.afterTake e)).followUp := by
  unfold State.takeCommand
  split
  · split
    · exact .inl (.refl s)
    · split
      · have taken (e : InputEntry) : s.Counts (s.afterTake e) := .refl s
        exact .inl ((taken _).count _ .agentbad).followUp.ends
      · exact .inr ⟨_, _, rfl⟩
  · exact .inl (.refl s)

theorem State.takeCommand_ends {i : Instr} {f : Request → State → State} (hf : ∀ rq u, State.Ends u (f rq u)) :
    s.Ends (s.takeCommand i f) := by
  obtain h | ⟨rq, e, h⟩ := s.takeCommand_cases i f
  · exact h
  · rw [h]
    exact State.Ends.followUp (State.Ends.trans (.same (s.afterTake_monitor e)) (hf rq (s.afterTake e)))

/-- A command is refused with a reply, or it is permitted and carried out (R122). -/
theorem State.checked_cases {α : Type} (s : State) (rq : Request) (k : Permit) (read : List Byte → Option α) (act : α → State) :
    (∃ o, s.checked rq k read act = s.answerPlain rq o) ∨ s.permits k = true ∧ ∃ x, s.checked rq k read act = act x := by
  unfold State.checked
  split
  · rename_i permitted
    split
    · exact .inl ⟨_, rfl⟩
    · exact .inr ⟨permitted, _, rfl⟩
  · exact .inl ⟨_, rfl⟩

theorem State.checked_ends {α : Type} {rq : Request} {k : Permit} {read : List Byte → Option α} {act : α → State}
    (ha : s.permits k = true → ∀ x, s.Ends (act x)) : s.Ends (s.checked rq k read act) := by
  obtain ⟨o, h⟩ | ⟨permitted, x, h⟩ := s.checked_cases rq k read act
  · exact h ▸ .same (s.answerPlain_monitor rq o)
  · exact h ▸ ha permitted x

/-- A command that leaves the monitor as it is. -/
theorem State.checked_same {α : Type} {rq : Request} {k : Permit} {read : List Byte → Option α} {act : α → State}
    (ha : ∀ x, (act x).monitor = s.monitor) : s.Ends (s.checked rq k read act) :=
  State.checked_ends fun _ x => .same (ha x)

theorem State.whenClocked_ends {f : State → State} (hf : s.Ends (f s)) : s.Ends (s.whenClocked f) := by
  unfold State.whenClocked
  split
  · exact hf
  · exact .refl s

end

/-! ### What the commands do -/

section
variable (s : State) (rq : Request)

theorem doReadRule_ends : s.Ends (doReadRule rq s) := by
  refine State.checked_same fun i => ?_
  split <;> simp

theorem doDeleteRule_ends : s.Ends (doDeleteRule rq s) := by
  refine State.checked_same fun i => ?_
  split <;> simp

theorem doTakeSnapshot_ends : s.Ends (doTakeSnapshot rq s) := by
  refine State.checked_same fun p => ?_
  split <;> simp

/-- The acknowledged alert goes, and the formation test is applied (R166). -/
theorem State.acknowledge_ends : s.Ends s.acknowledge :=
  State.Reports.formAlert ⟨.of_eq rfl rfl, fun _ => .of_quiet rfl rfl rfl⟩

theorem doAckAlert_ends : s.Ends (doAckAlert rq s) := by
  refine State.checked_ends fun _ q => ?_
  split
  · exact .same (s.answerPlain_monitor rq _)
  · split
    · exact s.acknowledge_ends.trans (.same (State.answerPlain_monitor _ rq _))
    · exact .same (s.answerPlain_monitor rq _)

/-- Neither a COMMIT nor a LOAD is accepted while the store is busy (R123). -/
theorem State.storeOperation_monitor (permitted : s.permits .storeOperation = true) {x : Store} (h : x.state.isStartup = false) :
    ((s.formDeferred rq).withStore x).monitor = s.monitor :=
  State.withStore_monitor_same (s.formDeferred rq) (by
    rw [h]
    exact (congrArg StoreState.isStartup (State.permits_storeOperation.mp permitted).1).symm)

theorem doCommit_ends : s.Ends (doCommit rq s) :=
  State.checked_ends fun permitted _ => .same (s.storeOperation_monitor rq permitted rfl)

theorem doLoad_ends : s.Ends (doLoad rq s) := by
  refine State.checked_ends fun permitted _ => ?_
  split
  · exact .same (s.answerPlain_monitor rq _)
  · exact .same (s.storeOperation_monitor rq permitted rfl)

/-- DISABLE PORT counts ABORTED, CANCELLED and a lost notice (R83, R109, R114). -/
theorem State.disableSegment_counts (sg : Seg) : s.Counts (s.disableSegment sg) := by
  by_cases enabled : (s.port (.seg sg)).enabled = true
  · rw [State.disableSegment_eq enabled]
    have halted : s.Counts (s.disabled sg) := by
      have port : s.Counts (s.withPort (.seg sg) (s.haltedPort (.seg sg))) :=
        (State.Counts.refl s).withPort fun k => PortCounters.get_le_bumpIf _ _ _ k
      refine State.Counts.same (port.withSeg (sg := sg) (x := (s.seg sg).cancelled) fun k => ?_) rfl
      show _ ≤ ExchangeCounters.get (if _ then _ else _) k
      split
      · exact (s.seg sg).counters.get_le_bump _ k
      · exact BitVec.le_refl _
    cases (s.seg sg).slot.openRecord with
    | none => exact halted
    | some r => exact halted.noticeIf _ _
  · rw [State.disableSegment, if_neg enabled]
    exact .refl s

/-- A reply with a restart mark is offered, and where it is discarded its reset is taken (R147). -/
theorem State.answer_restartIf (o : CommandOutcome) (body : List Byte) (f : Option RestartForm) :
    ∃ r g, s.answer rq o body f = (s.replyOffered rq.source r).restartIf g :=
  ⟨_, _, s.offerReply_eq rq.source _⟩

theorem State.replyOffered_storage (p : Port) (r : Reply) :
    (s.replyOffered p r).pool = s.pool ∧ (s.replyOffered p r).store = s.store := by
  unfold State.replyOffered
  dsimp only
  split
  · exact ⟨rfl, rfl⟩
  · split
    · exact ⟨rfl, rfl⟩
    · exact ⟨rfl, rfl⟩

end

/-! ### Commands that may take a reset -/

section
variable (s : State)

/-- Both forms of RESTART offer a marked reply and do nothing else, unless it is discarded (R147). -/
theorem State.restartCommand_ends (i : Instr) (n : Byte) (f : RestartForm) (t : State)
    (ht : t = s.takeCommand i fun rq u => u.checked rq .always (justByte? n) fun _ => u.answer rq .done [] (some f)) :
    s.Ends t ∨ ∃ k, s.ColdResetOf t k := by
  subst ht
  obtain h | ⟨rq, e, h⟩ := s.takeCommand_cases i fun rq u =>
    u.checked rq .always (justByte? n) fun _ => u.answer rq .done [] (some f)
  · exact .inl h
  rw [h]
  obtain ⟨o, refused⟩ | ⟨_, _, carried⟩ := (s.afterTake e).checked_cases rq .always (justByte? n)
    fun _ => (s.afterTake e).answer rq .done [] (some f)
  · rw [refused]
    exact .inl (State.Ends.followUp (.same (State.answerPlain_monitor _ rq o)))
  rw [carried]
  obtain ⟨r, g, answered⟩ := (s.afterTake e).answer_restartIf rq .done [] (some f)
  have offered : s.Counts ((s.afterTake e).replyOffered rq.source r) :=
    (State.Counts.refl s).same (State.replyOffered_monitor _ _ _)
  rw [answered]
  refine (offered.restartIf g).imp_right fun wiped => ⟨.cold, ?_⟩
  rw [wiped]
  obtain ⟨pool, store⟩ := (s.afterTake e).replyOffered_storage rq.source r
  exact (State.coldReset_coldResetOf _).of_storage ((congrArg Pool.ram pool).trans (s.pool.drop_ram e.buffer)) store

/-- DISABLE PORT may take the reset of a reply that it loses (R133, R147, log 31). -/
theorem State.disableCommand_ends : s.Ends (s.takeCommand .disablePort doDisablePort) ∨
    ∃ w : State, w.ColdResetOf (s.takeCommand .disablePort doDisablePort) .cold := by
  obtain h | ⟨rq, e, h⟩ := s.takeCommand_cases .disablePort doDisablePort
  · exact .inl h
  rw [h, doDisablePort]
  obtain ⟨o, refused⟩ | ⟨_, sg, carried⟩ := (s.afterTake e).checked_cases rq .onlyIdle (oneByte? seg?) fun sg =>
    (((s.afterTake e).disableSegment sg).answerPlain rq .done).restartIf ((s.afterTake e).lostRestart sg)
  · rw [refused]
    exact .inl (State.Ends.followUp (.same (State.answerPlain_monitor _ rq o)))
  rw [carried]
  have stopped : s.Counts (((s.afterTake e).disableSegment sg).answerPlain rq .done) :=
    ((s.afterTake e).disableSegment_counts sg).same (State.answerPlain_monitor _ rq _)
  exact (stopped.restartIf _).imp_right fun wiped => ⟨_, wiped ▸ State.coldReset_coldResetOf _⟩

theorem State.finishDescriptor_monitor (p : Port) (d : Descriptor) : (s.finishDescriptor p d).monitor = s.monitor := by
  unfold State.finishDescriptor
  split
  · split <;> simp
  all_goals simp

theorem State.finishRetry_monitor (p : Port) (b : Nat) : (s.finishRetry p b).monitor = s.monitor := by
  unfold State.finishRetry
  split <;> simp

/-- The send end of a reply settles it, or takes its reset (R76, R127, R147). -/
theorem State.finishReply_cases (p : Port) :
    (s.finishReply p).monitor = s.monitor ∨ ∃ f, s.finishReply p = (s.withLane p none).restart f := by
  unfold State.finishReply
  split
  · exact .inl rfl
  · split
    · exact .inr ⟨_, rfl⟩
    · exact .inl (by simp)

/-- At a send end the reset of a restart reply is taken; every other frame is finished and counted (R82, R147, R163). -/
theorem State.sendEnds_ends (p : Port) : s.Ends (s.sendEnds p) ∨ ∃ k, s.ColdResetOf (s.sendEnds p) k := by
  have sent := s.sent_counts p
  cases tx : (s.port p).tx.state with
  | sending cur since =>
    rw [State.sendEnds_sending tx]
    cases cur with
    | descriptor d => exact .inl (sent.same (State.finishDescriptor_monitor _ p d)).followUp.ends
    | retry b => exact .inl (sent.same (State.finishRetry_monitor _ p b)).followUp.ends
    | alert => exact .inl (sent.ends.trans (State.finishAlert_ends _)).followUp
    | reply =>
      rw [State.finishCurrent]
      obtain settled | ⟨f, restarts⟩ := (s.sent p).finishReply_cases p
      · exact .inl (sent.same settled).followUp.ends
      · rw [restarts]
        refine ((sent.same (State.withLane_monitor _ p none)).restartIf (some f)).imp_right fun wiped => ⟨.cold, ?_⟩
        exact wiped ▸ (State.coldReset_coldResetOf _).of_storage rfl rfl
  | _ =>
    rw [State.sendEnds_silent fun _ _ sending => nomatch tx.symm.trans sending]
    exact .inl (.refl s)

end

end Sys2Proof.Machine
end

section
/-! SUPPORT. Every command and every step over the monitor, and the statements of chapter 7. -/

namespace Sys2Proof.Machine
section
variable {s t : State}

/-- The resets from outside, the supply and the clock (R153, R192 to R194; log 16). -/
theorem exec_ends_outside {c : Instr} (outside : isOutside c = true) (hc : exec c s = .next t) :
    s.Ends t ∨ (∃ k, s.ColdResetOf t k) ∨ (c = .vddFallsBelow1V2 ∧ t = s.supplyLost) := by
  have wiped (k : ResetCause) (supply : Supply) (pin : Bool) : ∃ k', s.ColdResetOf (s.wiped k supply pin) k' :=
    ⟨k, s.wiped_coldResetOf k supply pin⟩
  cases c <;> simp only [isOutside, Bool.false_eq_true] at outside
  all_goals injection hc with hc; subst hc
  case powerReset => exact .inr (.inl (wiped _ _ _))
  case supplyReset =>
    unfold State.supplyFalls
    split
    · exact .inr (.inl (wiped _ _ _))
    · exact .inr (.inl (wiped _ _ _))
    · exact .inl (.refl s)
    · exact .inl (.refl s)
  case supplyRelease =>
    have released : s.Ends { s with supply := .ok } := .same rfl
    unfold State.supplyReleases
    split
    · exact .inl released.leaveReset
    · exact .inl released.leaveReset
    · exact .inl (.refl s)
    · exact .inl (.refl s)
  case pinReset =>
    unfold State.pinFalls
    split
    · exact .inr (.inl (wiped _ _ _))
    · exact .inr (.inl (wiped _ _ _))
    · exact .inr (.inl (wiped _ _ _))
    · exact .inl (.refl s)
  case pinResetEnd =>
    have released : s.Ends { s with pinHeld := false } := .same rfl
    unfold State.pinRises
    split
    · exact .inl released.leaveReset
    · exact .inl (.refl s)
  case vddFallsBelow1V2 => exact .inr (.inr ⟨rfl, rfl⟩)
  case clkinStops => exact .inl (.same rfl)
  case clkinReturns => exact .inl (.same rfl)

/-- The commands that neither take a reset nor clear counters. -/
def isPlain (c : Instr) : Bool :=
  match c with
  | .sendEnd _ | .disablePort | .restartCold | .restartWarm | .clearCountersPort | .clearCountersAll => false
  | c => !isOutside c

theorem exec_ends_plain {c : Instr} (plain : isPlain c = true) (hc : exec c s = .next t) : s.Ends t := by
  cases c <;> simp only [isPlain, isOutside, Bool.not_true, Bool.false_eq_true] at plain
  case commitCompletion w =>
    simp only [exec, execCommitCompletion] at hc
    split at hc
    · injection hc with hc; subst hc; exact State.whenClocked_ends (s.commitCompletes_ends w)
    · nomatch hc
  all_goals injection hc with hc; subst hc
  case characterArrival p => exact State.whenClocked_ends (s.arrive_ends p)
  case characterReceived p d a b => exact State.whenClocked_ends (s.receive_ends p d a b)
  case heldCharacterReleased p => exact State.whenClocked_ends (s.releaseHeld_ends p)
  case lineReturnsHighAfterBreak p => exact State.whenClocked_ends (s.lineHigh_ends p)
  case breakDeclared p => exact State.whenClocked_ends (s.declareBreak_ends p)
  case gapTimerExpiry p => exact State.whenClocked_ends (s.gapExpires_ends p)
  case turnaroundGuardExpiry sg e => exact State.whenClocked_ends (s.guardExpires_ends sg e)
  case responseTimerExpiry sg => exact State.whenClocked_ends (s.responseExpires_ends sg)
  case lapseTimerExpiry sg => exact State.whenClocked_ends (s.lapseExpires_ends sg)
  case settleTimerExpiry sg => exact State.whenClocked_ends (s.settleExpires_ends sg)
  case repeatTimerExpiry => exact State.whenClocked_ends s.repeatExpires_ends
  case loadCompletion => exact State.whenClocked_ends s.loadCompletes_ends
  case startupLoadCompletion => exact State.whenClocked_ends s.startupCompletes_ends
  case unknownCommand => exact State.takeCommand_ends fun rq u => .same (u.answerPlain_monitor rq _)
  case readRule => exact State.takeCommand_ends fun rq u => doReadRule_ends u rq
  case deleteRule => exact State.takeCommand_ends fun rq u => doDeleteRule_ends u rq
  case takeSnapshot => exact State.takeCommand_ends fun rq u => doTakeSnapshot_ends u rq
  case ackAlert => exact State.takeCommand_ends fun rq u => doAckAlert_ends u rq
  case commit => exact State.takeCommand_ends fun rq u => doCommit_ends u rq
  case load => exact State.takeCommand_ends fun rq u => doLoad_ends u rq
  case setPort => exact State.takeCommand_ends fun rq u => State.checked_same fun x => by simp
  case enablePort => exact State.takeCommand_ends fun rq u => State.checked_same fun p => by simp
  case writeRule => exact State.takeCommand_ends fun rq u => State.checked_same fun x => by simp
  case clearCountersHits =>
    exact State.takeCommand_ends fun rq u => State.checked_same fun _ => State.answerPlain_monitor _ rq _
  case setAgent => exact State.takeCommand_ends fun rq u => State.checked_same fun a => State.answerPlain_monitor _ rq _
  all_goals exact State.takeCommand_ends fun rq u => State.checked_same fun _ => u.answer_monitor rq _ _

/-- Every command but CLEAR COUNTERS ends its event by the laws of chapter 7, or wipes the part (R149, R153, R169; log 16, 31). -/
theorem exec_ends {c : Instr} (notPort : c ≠ .clearCountersPort) (notAll : c ≠ .clearCountersAll) (hc : exec c s = .next t) :
    s.Ends t ∨ (∃ k, s.ColdResetOf t k) ∨ (c = .disablePort ∧ ∃ w : State, w.ColdResetOf t .cold) ∨
      (c = .vddFallsBelow1V2 ∧ t = s.supplyLost) := by
  cases outside : isOutside c with
  | true => exact (exec_ends_outside outside hc).imp_right fun h => h.imp_right .inr
  | false =>
    cases plain : isPlain c with
    | true => exact .inl (exec_ends_plain plain hc)
    | false =>
      cases c <;> simp only [isPlain, isOutside, Bool.not_false, Bool.true_eq_false] at plain outside
      all_goals injection hc with hc
      case sendEnd p =>
        subst hc
        unfold State.whenClocked
        split
        · exact (s.sendEnds_ends p).imp_right .inl
        · exact .inl (.refl s)
      case restartCold => exact (s.restartCommand_ends _ _ _ t hc.symm).imp_right .inl
      case restartWarm => exact (s.restartCommand_ends _ _ _ t hc.symm).imp_right .inl
      case disablePort =>
        subst hc
        exact s.disableCommand_ends.imp_right fun h => .inr (.inl ⟨rfl, h⟩)
      case clearCountersPort => exact absurd rfl notPort
      case clearCountersAll => exact absurd rfl notAll

/-! ### The alert unit -/

/-- CLEAR COUNTERS does not touch the alert unit (R139). -/
theorem State.clearing_lawful {α : Type} {i : Instr} {read : List Byte → Option α} {clear : State → α → State}
    (kept : ∀ u x, ∃ ports segs, clear u x = { u with ports := ports, segs := segs }) (h : s.monitor.Lawful) :
    (s.takeCommand i fun rq u => u.checked rq .notLoading read fun x =>
      (clear u x).clearWatermark.answerPlain rq .done).monitor.Lawful := by
  obtain ended | ⟨rq, e, taken⟩ := s.takeCommand_cases i fun rq u => u.checked rq .notLoading read fun x =>
    (clear u x).clearWatermark.answerPlain rq .done
  · exact ended.lawful h
  rw [taken]
  refine (State.Counts.refl _).followUp.lawful ?_
  obtain ⟨o, refused⟩ | ⟨_, x, cleared⟩ := (s.afterTake e).checked_cases rq .notLoading read fun x =>
    (clear (s.afterTake e) x).clearWatermark.answerPlain rq .done
  · rw [refused, State.answerPlain_monitor]
    exact h
  · obtain ⟨ports, segs, same⟩ := kept (s.afterTake e) x
    rw [cleared, State.answerPlain_monitor, same]
    exact h.congr rfl rfl id

theorem exec_lawful {c : Instr} (h : s.monitor.Lawful) (hc : exec c s = .next t) : t.monitor.Lawful := by
  by_cases port : c = .clearCountersPort
  · subst port
    injection hc with hc
    subst hc
    exact State.clearing_lawful (fun u p => u.zeroPorts_frame [p]) h
  by_cases all : c = .clearCountersAll
  · subst all
    injection hc with hc
    subst hc
    exact State.clearing_lawful (fun u _ => u.zeroPorts_frame Port.list) h
  obtain ended | ⟨_, reset⟩ | ⟨_, _, reset⟩ | ⟨_, lost⟩ := exec_ends port all hc
  · exact ended.lawful h
  · exact reset.lawful
  · exact reset.lawful
  · exact .of_wiped (lost ▸ rfl)

theorem step_lawful (h : s.monitor.Lawful) (hs : step s = .next t) : t.monitor.Lawful := by
  obtain ⟨c, l, n, hc⟩ | rfl := step_next hs
  · exact exec_lawful (s := { s with pending := l, freeCount := n }) h hc
  · obtain ⟨n, m, b, e⟩ := s.tick_moves_time
    rw [e]
    exact h

end

/-- Settles O58: an event that may raise causes ends with the formation test, and what changes the alert unit besides keeps its
laws. -/
theorem stepKeepsTheAlertLaws : Obligations.StepKeepsTheAlertLaws := by
  intro s t h hs
  rw [State.alertsOk_iff] at h ⊢
  exact step_lawful h hs

/-- Settles O59: every operation but the two that clear counts upwards, and where a reset wipes the part its kind is known. -/
theorem countersNeverFall : Obligations.CountersNeverFall := by
  intro c s t notPort notAll hc
  obtain ended | reset | reset | ⟨lost, rfl⟩ := exec_ends notPort notAll hc
  · exact .inl ⟨ended.counts.ports, ended.counts.segs⟩
  · exact .inr (.inl reset)
  · exact .inr (.inr (.inl reset))
  · have zero := s.wiped_coldResetOf .power .lost false
    exact .inr (.inr (.inr ⟨lost, fun p => (zero.ports p).2.2.2.2, fun sg => (zero.segs sg).2.2⟩))

end Sys2Proof.Machine
end

section
/-! SUPPORT. The alert on its way: its frame (R162, R190), the lane's send end (R163) and the repeat timer (R164). -/

namespace Sys2Proof.Machine

/-- The bytes of an alert, with its check (R162). -/
theorem alertFrame_bytes (address : Byte) (sequence : BitVec 8) (causes : CauseSet) (stamp : Stamp) (free : Nat) (head : List Byte)
    (h : head = [address, 0x71#8, sequence, causes.code] ++ be32 stamp.toNat ++ [byteOf free]) :
    alertFrame address sequence causes stamp free = head ++ [((checkOf head) >>> 8).setWidth 8, (checkOf head).setWidth 8] ∧
      (alertFrame address sequence causes stamp free).length = 11 := by
  subst h
  exact ⟨rfl, rfl⟩

/-- The five causes take the low bits of the set (9.1). -/
theorem CauseSet.code_lt (x : CauseSet) : x.code.toNat < 32 := by
  have each : ∀ a b c d e : Bool, (CauseSet.code ⟨a, b, c, d, e⟩).toNat < 32 := by decide
  exact each _ _ _ _ _

section
variable {s : State}

theorem State.finishAlert_outstanding (h : s.alert.state = .outstanding) :
    s.finishAlert =
      { s with
        alertLane := none
        alert := { s.alert with repeatDue := some (s.now + Config.finePerMilli * s.agent.settings.interval) } } := by
  rw [State.finishAlert, h]
  rfl

theorem State.finishAlert_quiet (h : s.alert.state = .quiet) : s.finishAlert = State.alerted { s with alertLane := none } [] := by
  rw [State.finishAlert, h, State.alerted_nil]
  rfl

theorem State.finishAlert_stalled (h : s.alert.state = .stalled) : s.finishAlert = { s with alertLane := none } := by
  rw [State.finishAlert, h]
  rfl

theorem exec_repeatTimerExpiry (h : s.clockRunning = true) : exec .repeatTimerExpiry s = .next s.repeatExpires :=
  congrArg Host.Outcome.next (State.whenClocked_running h _)

/-- Below three repeats the current alert is placed again (R164). -/
theorem State.repeatExpires_again {due : Nat} {a : Alert} (timer : s.alert.repeatDue = some due)
    (outstanding : s.alert.state = .outstanding) (current : s.alert.current = some a) (below : s.alert.repeatCount < 3) :
    s.repeatExpires =
      State.followUp
        { s with
          alert := { s.alert with repeatCount := s.alert.repeatCount + 1, repeatDue := none }
          alertLane := some a.frame } := by
  have limit : s.alert.repeatCount < Config.repeatLimit := below
  simp only [State.repeatExpires, timer, outstanding, limit, if_true, State.placeCurrentAlert, State.withAlert_alert, current]
  rfl

/-- At three repeats the alert stalls (R164). -/
theorem State.repeatExpires_stalls {due : Nat} (timer : s.alert.repeatDue = some due)
    (outstanding : s.alert.state = .outstanding) (three : 3 ≤ s.alert.repeatCount) :
    s.repeatExpires = { s with alert := { s.alert with state := .stalled, repeatDue := none } } := by
  have limit : ¬ s.alert.repeatCount < Config.repeatLimit := Nat.not_lt.mpr three
  simp only [State.repeatExpires, timer, outstanding, limit, if_false]
  rfl

/-- A timer that does not run, or in another state, has no expiry (log 3). -/
theorem State.repeatExpires_ignored (h : s.alert.repeatDue = none ∨ s.alert.state ≠ .outstanding) : s.repeatExpires = s := by
  unfold State.repeatExpires
  split
  · rename_i due timer outstanding
    rcases h with stopped | other
    · nomatch stopped.symm.trans timer
    · exact absurd outstanding other
  · rfl

end

/-- Settles O33: the frame by its bytes; the send end by the alert unit's state; the timer by the repeat count. -/
theorem alertIsSentAndRepeated : Obligations.AlertIsSentAndRepeated := by
  refine ⟨fun address sequence causes stamp free head bytes => ?_, ?_, fun s clock => ?_⟩
  · obtain ⟨frame, length⟩ := alertFrame_bytes address sequence causes stamp free head bytes
    have bit := causes.code_bit
    exact ⟨frame, length, bit 0 (by omega), bit 1 (by omega), bit 2 (by omega), bit 3 (by omega), bit 4 (by omega), causes.code_lt⟩
  · rintro s _ p since clock sending rfl
    rw [exec_sendEnd clock, State.sendEnds_sending sending]
    exact ⟨_, rfl, State.followUp_startsFrom _, State.finishAlert_outstanding (s := s.sent p),
      State.finishAlert_quiet (s := s.sent p), State.finishAlert_stalled (s := s.sent p)⟩
  · rw [exec_repeatTimerExpiry clock]
    refine ⟨fun due a timer outstanding current => ⟨fun below => ?_, fun three => ?_⟩, fun idle => ?_⟩
    · exact ⟨_, congrArg _ (State.repeatExpires_again timer outstanding current below), State.followUp_startsFrom _, rfl⟩
    · rw [State.repeatExpires_stalls timer outstanding three]
    · rw [State.repeatExpires_ignored idle]

end Sys2Proof.Machine
end

section
/-! SUPPORT. The two banks (8.1): which is the newest and what a commit writes (R173), and the end of a reset, at which they are
assessed (R172, R184, R192, R193). -/

namespace Sys2Proof.Machine

/-! ### Generations (R173) -/

/-- The generation after one is never 0 (R173). -/
theorem nextGeneration_ne_zero (g : BitVec 32) : nextGeneration g ≠ 0#32 := by
  unfold nextGeneration
  split
  · decide
  · bv_omega

/-- A commit's generation differs from the one before (R173). -/
theorem nextGeneration_ne (g : BitVec 32) : nextGeneration g ≠ g := by
  unfold nextGeneration
  split <;> bv_omega

section
variable {st : Store}

/-- Of two valid banks the difference of the generations decides (R173). -/
theorem Store.newest_both (a : st.bankA.valid = true) (b : st.bankB.valid = true) :
    st.newest =
      if (st.bankA.storedGeneration - st.bankB.storedGeneration).toNat ≤ 2147483648 then some .a else some .b := by
  simp only [Store.newest, a, b, aIsNewest, decide_eq_true_eq]

theorem Store.generationToWrite_none (h : st.newest = none) : st.generationToWrite = 1#32 := by
  rw [Store.generationToWrite, h]

theorem Store.generationToWrite_some {id : BankId} (h : st.newest = some id) :
    st.generationToWrite = nextGeneration (st.bank id).storedGeneration := by
  rw [Store.generationToWrite, h]

end

/-- Settles O36: by the validity of the two banks, and by the newest bank for the generation to be written. -/
theorem newestBankByGenerations : Obligations.NewestBankByGenerations := by
  refine ⟨fun st a b n hn => ?_, fun st => ⟨fun a b => ?_, fun a b => ?_, fun a b => ?_⟩, fun st id newest => ?_,
    fun st none => Store.generationToWrite_none none, fun st => ?_, nextGeneration_ne, by decide⟩
  · rw [Store.newest_both a b, ← hn]
    exact ⟨fun _ high => if_pos (by omega), fun low _ => if_neg (by omega), fun edge => if_pos (by omega)⟩
  · rw [Store.newest, a, b]
  · rw [Store.newest, a, b]
  · rw [Store.newest, a, b]
  · rw [Store.generationToWrite_some newest]
    rfl
  · cases newest : st.newest with
    | none =>
      rw [Store.generationToWrite_none newest]
      decide
    | some id =>
      rw [Store.generationToWrite_some newest]
      exact nextGeneration_ne_zero _

/-! ### The end of a reset (R172, R184, R192, R193) -/

section
variable {s : State}

/-- While a reset condition is left, nothing begins (R192, R193). -/
theorem State.leaveReset_held (h : s.heldInReset = true) : s.leaveReset = s := if_pos h

/-- With no reset condition left, the start-up load begins (R184). -/
theorem State.leaveReset_free (h : s.heldInReset = false) : s.leaveReset = { s with store := s.store.starting } :=
  if_neg (by simp [h])

theorem exec_supplyRelease_held (h : s.supply = .heldPower ∨ s.supply = .heldSupply) :
    exec .supplyRelease s = .next (State.leaveReset { s with supply := .ok }) := by
  show Host.Outcome.next s.supplyReleases = _
  unfold State.supplyReleases
  rcases h with h | h <;> rw [h]

theorem exec_supplyRelease_ignored (h : s.supply = .ok ∨ s.supply = .lost) : exec .supplyRelease s = .next s := by
  show Host.Outcome.next s.supplyReleases = _
  unfold State.supplyReleases
  rcases h with h | h <;> rw [h]

theorem exec_pinResetEnd_held (h : s.pinHeld = true) :
    exec .pinResetEnd s = .next (State.leaveReset { s with pinHeld := false }) := congrArg Host.Outcome.next (if_pos h)

theorem exec_pinResetEnd_ignored (h : s.pinHeld = false) : exec .pinResetEnd s = .next s :=
  congrArg Host.Outcome.next (if_neg (by simp [h]))

end

/-- A bank's contents are valid when the stored check is the computed one and every field passes (R172, R191). -/
theorem Bank.contentsValid_iff (b : Bank) :
    b.contentsValid = true ↔
      numberOf (b.body.readBytes 3164 4) = (integrityOf (b.body.readBytes 4 3160)).toNat ∧
        ∃ pr, b.storedProfile? = some pr := by
  rw [Bank.contentsValid, Bool.and_eq_true, decide_eq_true_iff, Option.isSome_iff_exists]

/-- The integrity check is a sum modulo 2^32 (R191). -/
theorem integrityOf_toNat (bytes : List Byte) :
    (integrityOf bytes).toNat = (Config.integrityBase + (bytes.map (·.toNat)).sum) % 4294967296 := by
  rw [integrityOf, BitVec.toNat_ofNat]

/-- Settles O7: each release by whether there is something to release, and then by what the other condition says. -/
theorem releaseBeginsTheStartupLoad : Obligations.ReleaseBeginsTheStartupLoad := by
  refine fun s => ⟨fun held => ?_, exec_supplyRelease_ignored, fun held => ?_, exec_pinResetEnd_ignored,
    fun b => ⟨rfl, ?_⟩⟩
  · rw [exec_supplyRelease_held held]
    split
    · rename_i pin
      rw [State.leaveReset_held (by simp [State.heldInReset, pin])]
    · rename_i pin
      rw [State.leaveReset_free (by simp [State.heldInReset, pin])]
  · rw [exec_pinResetEnd_held held]
    split
    · rename_i supply
      rw [State.leaveReset_free (by simp [State.heldInReset, supply])]
    · rename_i supply
      rw [State.leaveReset_held (by simp [State.heldInReset, supply])]
  · exact integrityOf_toNat _ ▸ b.contentsValid_iff

end Sys2Proof.Machine
end

section
/-! SUPPORT. The store's completions (R177, R178, R182, R185): the owed reply, a LOAD's pending records, and the ports that a
start-up load brings up. -/

namespace Sys2Proof.Machine

section
variable {s : State}

theorem exec_commitCompletion {wrong : List (Nat × Byte)} (wf : (Instr.commitCompletion wrong).wellFormed = true)
    (clock : s.clockRunning = true) : exec (.commitCompletion wrong) s = .next (s.commitCompletes wrong) :=
  (if_pos wf).trans (congrArg Host.Outcome.next (State.whenClocked_running clock _))

theorem exec_loadCompletion (clock : s.clockRunning = true) : exec .loadCompletion s = .next s.loadCompletes :=
  congrArg Host.Outcome.next (State.whenClocked_running clock _)

theorem exec_startupLoadCompletion (clock : s.clockRunning = true) :
    exec .startupLoadCompletion s = .next s.startupCompletes :=
  congrArg Host.Outcome.next (State.whenClocked_running clock _)

/-! ### The deferred reply (R126) -/

/-- The owed outcome builds the deferred reply and offers it to its port's lane (R126, R127). -/
theorem State.offerDeferred_eq {d : Deferred} (h : s.agent.deferred = some d) (o : CommandOutcome) :
    s.offerDeferred o = s.deferredOffered d (replyFrame d.address d.command d.tag o []) := by
  have port : s.numberReply.port d.port = s.port d.port := rfl
  unfold State.offerDeferred State.deferredOffered
  rw [h]
  simp only [port]
  by_cases refused : (s.port d.port).refusesReply = true
  · rw [if_pos refused, if_pos (PortState.refusesReply_iff.mp refused)]
    exact State.settleAddress_eq _
  · rw [if_neg refused, if_neg (mt PortState.refusesReply_iff.mpr refused)]
    cases lane : (s.port d.port).lane with
    | none => rfl
    | some r => rfl

/-! ### A commit completes (R177, R178) -/

/-- The store's part of a commit's completion, by the outcome that is owed (R177, R178). -/
theorem State.endCommit_eq {j : CommitJob} {wrong : List (Nat × Byte)} {o : CommandOutcome}
    (h : o = if j.readsBack wrong = true then .done else .storeFail) :
    s.endCommit j wrong =
      { s with
        store :=
          { s.store.withBank j.target
              { s.store.bank j.target with
                body := j.bodyAfter wrong
                valid := decide (o = .done) } with state := .idle } } := by
  have valid : j.readsBack wrong = decide (o = .done) := by
    rw [h]
    cases j.readsBack wrong <;> rfl
  rw [← valid]
  rfl

theorem State.commitCompletes_done {j : CommitJob} {wrong : List (Nat × Byte)} (job : s.store.state = .committing j)
    (h : j.readsBack wrong = true) : s.commitCompletes wrong = ((s.endCommit j wrong).offerDeferred .done).followUp := by
  rw [State.commitCompletes, job]
  exact if_pos h

theorem State.commitCompletes_fails {j : CommitJob} {wrong : List (Nat × Byte)} (job : s.store.state = .committing j)
    (h : ¬ j.readsBack wrong = true) :
    s.commitCompletes wrong = (((s.endCommit j wrong).offerDeferred .storeFail).raiseCause .store).finish := by
  rw [State.commitCompletes, job]
  exact if_neg h

/-- Settles O34: by whether every cell reads back as programmed. -/
theorem commitCompletionSettlesTheTarget : Obligations.CommitCompletionSettlesTheTarget := by
  rintro s v w j wrong d o clock job wf owed ho hv rfl
  have ended : s.endCommit j wrong = v := hv ▸ State.endCommit_eq ho
  have offered : (s.endCommit j wrong).offerDeferred o = v.deferredOffered d (replyFrame d.address d.command d.tag o []) := by
    rw [State.offerDeferred_eq (s := s.endCommit j wrong) owed, ended]
  rw [exec_commitCompletion wf clock]
  by_cases kept : j.readsBack wrong = true
  · obtain rfl : o = .done := ho.trans (if_pos kept)
    rw [State.commitCompletes_done job kept, offered]
    exact ⟨_, rfl, State.followUp_startsFrom _, fun _ => rfl, nofun⟩
  · obtain rfl : o = .storeFail := ho.trans (if_neg kept)
    rw [State.commitCompletes_fails job kept, offered]
    exact ⟨_, rfl, State.followUp_startsFrom _, nofun, fun _ => State.formAlert_raiseCause _ _⟩

/-! ### Folds over the ports -/

/-- A fold whose every step replaces the same part of the state replaces that part alone. -/
theorem State.foldl_replaces {α β : Type} {f : State → α → State} {replace : State → β → State}
    (nothing : ∀ s, ∃ x, s = replace s x) (once : ∀ s x y, replace (replace s x) y = replace s y)
    (each : ∀ s a, ∃ x, f s a = replace s x) (l : List α) (s : State) : ∃ x, l.foldl f s = replace s x := by
  induction l generalizing s with
  | nil => exact nothing s
  | cons a l ih =>
    obtain ⟨x, first⟩ := each s a
    obtain ⟨y, rest⟩ := ih (f s a)
    exact ⟨y, by rw [List.foldl_cons, rest, first, once]⟩

/-- A fold over the ports, each step of which changes its own port's part alone, does to every part what its step does. -/
theorem State.foldl_ports {β : Type} {f : State → Port → State} {read : State → Port → β} {g : Port → β → β}
    (own : ∀ s p, read (f s p) p = g p (read s p)) (others : ∀ s p q, q ≠ p → read (f s p) q = read s q) (s : State)
    (p : Port) : read (Port.list.foldl f s) p = g p (read s p) :=
  State.foldl_once (read := fun s p => (p, read s p)) (becomes := fun x y => y.2 = g x.1 x.2) own
    (fun s p q other => Prod.ext rfl (others s p q other)) (by decide) s p (Port.mem_list p)

/-! ### A load completes (R182) -/

/-- Placing the pending records changes the ports alone (R182). -/
theorem State.placeRecords_eq (s : State) (records : PerPort PortRecord) :
    s.placeRecords records = { s with ports := (s.placeRecords records).ports } := by
  obtain ⟨ports, placed⟩ : ∃ ports, s.placeRecords records = { s with ports := ports } :=
    State.foldl_replaces (replace := fun s ports => { s with ports := ports }) (fun _ => ⟨_, rfl⟩) (fun _ _ _ => rfl)
      (fun _ _ => ⟨_, rfl⟩) Port.list s
  rw [placed]

theorem State.placeRecords_port (s : State) (records : PerPort PortRecord) (p : Port) :
    (s.placeRecords records).port p = { s.port p with pendingSettings := some (records.get p).settings } :=
  State.foldl_ports (f := fun s p => s.withPendingSettings p (some (records.get p).settings)) (read := State.port)
    (g := fun p x => { x with pendingSettings := some (records.get p).settings })
    (fun s p => s.withPendingSettings_port_self p _) (fun s p _ other => s.withPendingSettings_port_ne p _ other) s p

theorem Store.profileOf_some {st : Store} {id : BankId} {pr : Profile} (h : (st.bank id).storedProfile? = some pr) :
    st.profileOf (some id) = pr := by
  rw [Store.profileOf, h]
  rfl

theorem State.loadCompletes_eq {id : BankId} {pr : Profile} (loading : s.store.state = .loading id)
    (image : (s.store.bank id).storedProfile? = some pr) : s.loadCompletes = s.applyLoad pr := by
  rw [State.loadCompletes, loading]
  exact congrArg s.applyLoad (Store.profileOf_some image)

/-- Settles O35: the reply is offered while the agent settings are tied to it, then table and records are replaced. -/
theorem loadCompletionAppliesTheImage : Obligations.LoadCompletionAppliesTheImage := by
  intro s v w id pr d clock loading image owed hv hw
  have waiting : (s.withStore { s.store with state := .idle }).awaitSettings pr.agent = v := hv.symm
  have vOwed : v.agent.deferred = some d := by rw [hv, ← owed]
  have applied : s.applyLoad pr = ((w.withRules (freshTable pr.rules)).placeRecords pr.ports).followUp := by
    rw [State.applyLoad, waiting, State.offerDeferred_eq vOwed, ← hw]
  rw [exec_loadCompletion clock, State.loadCompletes_eq loading image, applied]
  exact ⟨_, rfl, State.followUp_startsFrom _, State.placeRecords_eq _ _, State.placeRecords_port _ _⟩

/-! ### A start-up load completes (R185) -/

/-- A port that comes up with the record `r` (R20, R185). -/
def PortState.broughtUp (x : PortState) (r : PortRecord) : PortState :=
  { x with
    enabled := r.enabled
    settings := r.settings
    pendingSettings := none
    rx := Receiver.fresh (if r.enabled then .idle else .off)
    tx := Transmitter.fresh (if r.enabled then .idle else .off)
    guardFrom := none }

/-- What the part holds for the segment of a port, if it is one. -/
def State.segOf (s : State) (p : Port) : Option SegState :=
  match p with
  | .trunk => none
  | .seg sg => some (s.seg sg)

section
variable (s : State) (p q : Port) (r : PortRecord)

theorem State.bringUp_port_self : (s.bringUp p r).port p = (s.port p).broughtUp r := by
  cases p with
  | trunk => exact s.withPort_port_self .trunk _
  | seg sg => exact s.withPort_port_self (.seg sg) _

theorem State.bringUp_port_ne (other : q ≠ p) : (s.bringUp p r).port q = s.port q := by
  cases p with
  | trunk => exact s.withPort_port_ne .trunk _ other
  | seg sg => exact s.withPort_port_ne (.seg sg) _ other

theorem State.bringUp_segOf_self :
    (s.bringUp p r).segOf p = (s.segOf p).map fun x => { x with slot := Slot.forRole r.settings.role } := by
  cases p with
  | trunk => rfl
  | seg sg => exact congrArg some (State.withSlot_seg_self _ sg _)

theorem State.bringUp_segOf_ne (other : q ≠ p) : (s.bringUp p r).segOf q = s.segOf q := by
  cases p with
  | trunk => cases q <;> rfl
  | seg sg =>
    cases q with
    | trunk => rfl
    | seg g => exact congrArg some (State.withSlot_seg_ne _ sg _ fun same => other (congrArg Port.seg same))

end

section
variable (s : State) (records : PerPort PortRecord)

/-- The ports come up with their records, one after another (R185). -/
def State.broughtUp : State := Port.list.foldl (fun s p => s.bringUp p (records.get p)) s

/-- Bringing the ports up changes ports and slots alone. -/
theorem State.broughtUp_eq :
    s.broughtUp records = { s with ports := (s.broughtUp records).ports, segs := (s.broughtUp records).segs } := by
  obtain ⟨⟨ports, segs⟩, up⟩ : ∃ x : PerPort PortState × PerSeg SegState,
      s.broughtUp records = { s with ports := x.1, segs := x.2 } :=
    State.foldl_replaces (replace := fun s x => { s with ports := x.1, segs := x.2 }) (fun _ => ⟨(_, _), rfl⟩)
      (fun _ _ _ => rfl) (fun _ p => by cases p <;> exact ⟨(_, _), rfl⟩) Port.list s
  rw [up]

theorem State.broughtUp_port (p : Port) : (s.broughtUp records).port p = (s.port p).broughtUp (records.get p) :=
  State.foldl_ports (f := fun s p => s.bringUp p (records.get p)) (read := State.port)
    (g := fun p x => x.broughtUp (records.get p)) (fun s p => s.bringUp_port_self p _)
    (fun s p q other => s.bringUp_port_ne p q _ other) s p

theorem State.broughtUp_seg (sg : Seg) :
    (s.broughtUp records).seg sg = { s.seg sg with slot := Slot.forRole (records.get (.seg sg)).settings.role } :=
  Option.some.inj
    (State.foldl_ports (β := Option SegState) (f := fun s p => s.bringUp p (records.get p)) (read := State.segOf)
      (g := fun p x => x.map fun y : SegState => { y with slot := Slot.forRole (records.get p).settings.role })
      (fun s p => s.bringUp_segOf_self p _) (fun s p q other => s.bringUp_segOf_ne p q _ other) s (.seg sg))

end

/-- What the raising of causes changes (R160, R161): the alert unit and the alert lane. -/
theorem State.alerted_eq (s : State) (ks : List Cause) :
    s.alerted ks = { s with alert := (s.alerted ks).alert, alertLane := (s.alerted ks).alertLane } := by
  unfold State.alerted
  split <;> rfl

/-- The part once the profile `pr` is in force but for the ports (R185): table, agent settings, and RESTARTED raised. -/
def State.restarted (s : State) (pr : Profile) : State :=
  State.alerted
    { s with
      rules := freshTable pr.rules
      agent := { s.agent with settings := pr.agent, pendingAddress := none } } [.restarted]

theorem State.restarted_eq (s : State) (pr : Profile) :
    (((s.withRules (freshTable pr.rules)).withAgent
      { s.agent with settings := pr.agent, pendingAddress := none }).raiseCause .restarted).formAlert = s.restarted pr :=
  State.formAlert_raiseCause _ _

/-- What comes before the ports leaves ports, slots and store as they were. -/
theorem State.restarted_keeps (s : State) (pr : Profile) :
    (s.restarted pr).ports = s.ports ∧ (s.restarted pr).segs = s.segs ∧ (s.restarted pr).store = s.store := by
  rw [State.restarted, State.alerted_eq]
  exact ⟨rfl, rfl, rfl⟩

/-- The order of R185: the table, the agent settings and RESTARTED first, then the ports, then the store IDLE. -/
theorem State.applyStartup_eq (s : State) (pr : Profile) :
    s.applyStartup pr = ((s.restarted pr).broughtUp pr.ports).withStore { s.store with state := .idle } := by
  have store : ((s.restarted pr).broughtUp pr.ports).store = s.store := by
    obtain ⟨_, _, kept⟩ := s.restarted_keeps pr
    rw [State.broughtUp_eq]
    exact kept
  rw [← store, ← State.restarted_eq]
  rfl

theorem Store.profileOf_eq {st : Store} {src : Option BankId} {pr : Profile}
    (h : (src = none ∧ pr = factoryProfile) ∨ ∃ id, src = some id ∧ (st.bank id).storedProfile? = some pr) :
    st.profileOf src = pr := by
  rcases h with ⟨rfl, rfl⟩ | ⟨id, rfl, image⟩
  · rfl
  · exact Store.profileOf_some image

theorem State.startupCompletes_eq {src : Option BankId} (loading : s.store.state = .startup src) :
    s.startupCompletes = (s.applyStartup (s.store.profileOf src)).followUp := by
  rw [State.startupCompletes, loading]

/-- Settles O8: the causes first, then each port and its slot. -/
theorem startupLoadAppliesTheProfile : Obligations.StartupLoadAppliesTheProfile := by
  intro s src pr clock loading chosen
  rw [exec_startupLoadCompletion clock, State.startupCompletes_eq loading, Store.profileOf_eq chosen, State.applyStartup_eq]
  obtain ⟨ports, segs, _⟩ := s.restarted_keeps pr
  have restarted : s.restarted pr = State.alerted
      { s with
        rules := pr.rules.map fun r => r.map fun r => ⟨r, 0#32⟩
        agent := { s.agent with settings := pr.agent, pendingAddress := none } } [.restarted] := rfl
  generalize s.restarted pr = a at ports segs restarted
  have port (p : Port) : a.port p = s.port p := congrArg (PerPort.get · p) ports
  have seg (sg : Seg) : a.seg sg = s.seg sg := congrArg (PerSeg.get · sg) segs
  refine ⟨_, a, rfl, State.followUp_startsFrom _, restarted, ?_, fun p => ?_, fun sg => ?_⟩
  · have up := a.broughtUp_eq pr.ports
    generalize a.broughtUp pr.ports = v at up
    exact congrArg (State.withStore · { s.store with state := .idle }) up
  · rw [State.withStore_port, State.broughtUp_port, port]
    rfl
  · rw [State.withStore_seg, State.broughtUp_seg, seg, Slot.forRole_eq]

end
end Sys2Proof.Machine
end

section
/-! SUPPORT. The machine right after reset: it is a wiped part and so keeps every law; released, it finds no valid bank, and loaded
with the factory profile it sends its first alert and nothing else (R169, R188). -/

namespace Sys2Proof.Machine

/-! ### The laws -/

/-- The machine right after reset is a part wiped by a POWER reset. -/
theorem State.reset_wiped : State.reset.wiped .power .heldPower false = State.reset := rfl

theorem State.reset_holdersOk : State.reset.holdersOk :=
  (State.holdersOk_iff _).mpr (State.reset_wiped ▸ State.reset.wiped_sound .power .heldPower false)

theorem State.reset_bounded : State.reset.bounded := by
  have table : State.reset.rules.length = Config.ruleEntries := List.length_replicate
  refine (State.bounded_iff _).mpr ⟨⟨fun p => ?_, by decide, by decide, by decide⟩, table⟩
  have wiped := State.reset_wiped ▸ State.reset.wiped_coldResetOf .power .heldPower false
  obtain ⟨_, empty, _⟩ := wiped.ports p
  rw [empty]
  exact TxQueue.empty_bounded

/-- What a reset of a cold kind leaves is in range (R188, log 12). -/
theorem Setup.wiped_ok : Setup.wiped.Ok := by
  refine ⟨⟨fun p => ?_, rfl⟩, rulesInRange_empty, by decide, by simp [Setup.wiped], by simp [Setup.wiped]⟩
  cases p with
  | trunk => exact ⟨by decide, nofun⟩
  | seg sg => cases sg <;> exact ⟨by decide, nofun⟩

theorem State.reset_configOk : State.reset.configOk := by
  have setup : State.reset.setup = Setup.wiped := rfl
  rw [State.configOk_iff, setup]
  exact Setup.wiped_ok

theorem State.reset_alertsOk : State.reset.alertsOk := (State.alertsOk_iff _).mpr (.of_wiped rfl)

/-! ### The start-up load of a new part -/

/-- A bank as it leaves manufacture reads as erased, which no image does (R171, R172). -/
theorem Bank.manufactured_storedProfile : Bank.manufactured.storedProfile? = none := by
  have agent : agentSettings? (Bank.manufactured.imageBytes.take 4) = none := by decide +kernel
  rw [Bank.storedProfile?, profile?, agent]

theorem Bank.manufactured_assess : Bank.manufactured.assess = Bank.manufactured := by
  have invalid : Bank.manufactured.contentsValid = false := by
    rw [Bank.contentsValid, Bank.manufactured_storedProfile]
    exact Bool.and_false _
  rw [Bank.assess, invalid]
  rfl

/-- A new part has no valid bank to load (R184). -/
theorem Store.manufactured_starting (st : StoreState) :
    Store.starting ⟨Bank.manufactured, Bank.manufactured, st⟩ = ⟨Bank.manufactured, Bank.manufactured, .startup none⟩ := by
  rw [Store.starting, Bank.manufactured_assess]
  rfl

/-- The new part released from its POWER reset (R184, R193). -/
def State.released : State :=
  { State.reset with supply := .ok, store := ⟨Bank.manufactured, Bank.manufactured, .startup none⟩ }

theorem State.released_eq : exec .supplyRelease State.reset = .next State.released := by
  rw [exec_supplyRelease_held (.inl rfl), State.leaveReset_free rfl]
  exact congrArg (fun st => Host.Outcome.next { State.reset with supply := .ok, store := st }) (Store.manufactured_starting .idle)

/-- RESTARTED raised in the part just loaded forms alert number 1 (R161, R169). -/
theorem State.released_alerted (rules : List (Option Entry)) :
    ∃ alert : Alert, alert.causes = ⟨false, false, false, false, true⟩ ∧
      State.alerted { State.released with rules := rules, agent := { Agent.wiped with settings := factoryAgent } }
          [.restarted] =
        { State.released with
          rules := rules
          agent := { Agent.wiped with settings := factoryAgent }
          alert := ⟨.outstanding, 1#8, CauseSet.empty, some alert, 0, none⟩
          alertLane := some alert.frame } := by
  have raised : CauseSet.empty.add .restarted ≠ CauseSet.empty := by decide
  exact ⟨_, rfl, if_pos ⟨rfl, raised, rfl⟩⟩

/-! ### The first alert -/

section
variable {s : State}

theorem State.applyPending_none {p : Port} (h : (s.port p).pendingSettings = none) : s.applyPending p = s := by
  rw [State.applyPending, h]

/-- With every segment off and no record pending, what follows is the start of the alert that waits on the trunk (R13, R14). -/
theorem State.followUp_alert (idle : (s.port .trunk).tx.state = .idle) (lane : (s.port .trunk).lane = none)
    (alert : s.alertLane.isSome = true) (off : ∀ sg, (s.port (.seg sg)).tx.state = .off)
    (settled : ∀ p, (s.port p).pendingSettings = none) : s.followUp = s.withPort .trunk (s.sendingPort .trunk .alert) := by
  have start : s.startPort .trunk = s.withPort .trunk (s.sendingPort .trunk .alert) := by
    have choice : s.choice .trunk = some .alert :=
      State.choice_alert rfl (by simp [State.replyWaiting, lane]) (by simp [State.alertWaiting, alert])
    have may : s.startCondition .trunk = true := rfl
    rw [State.startPort_choice (.inl idle) choice, if_pos may]
    exact s.startSending_eq .trunk .alert
  generalize hu : s.withPort .trunk (s.sendingPort .trunk .alert) = u at start ⊢
  have segment (sg : Seg) : u.port (.seg sg) = s.port (.seg sg) := hu ▸ s.withPort_port_ne .trunk _ (by simp)
  have others (sg : Seg) : u.startPort (.seg sg) = u := by
    refine State.startPort_none (.inl ?_)
    rw [segment, off]
  have stays (p : Port) : u.applyPending p = u := by
    refine State.applyPending_none ?_
    cases p with
    | trunk =>
      rw [← hu, State.withPort_port_self]
      exact settled .trunk
    | seg sg => rw [segment, settled]
  simp only [State.followUp, Port.list, List.foldl_cons, List.foldl_nil, start, others, stays]

end

/-- Settles O60: the laws of a wiped part, then the start-up load's completion with what follows it. -/
theorem resetMeetsTheLawsAndComesUp : Obligations.ResetMeetsTheLawsAndComesUp := by
  obtain ⟨lawful, counts, roles, attempts, _, _⟩ := State.reset_holdersOk
  refine ⟨⟨lawful, counts, ⟨Memory.wf_nil, Memory.wf_nil, Memory.wf_nil⟩, State.reset_bounded, State.reset_configOk.1, roles,
    attempts, State.reset_alertsOk, nofun, State.reset_holdersOk, State.reset_configOk, rfl, rfl⟩, ?_⟩
  obtain ⟨u, a, completes, _, ha, hu, ports, segs⟩ :=
    startupLoadAppliesTheProfile State.released none factoryProfile rfl rfl (.inl ⟨rfl, rfl⟩)
  obtain ⟨alert, causes, formed⟩ := State.released_alerted (freshTable factoryProfile.rules)
  have alerted := ha.trans formed
  have trunk : u.port .trunk = (PortState.stopped factoryTrunk).broughtUp factoryTrunk := ports .trunk
  have segment (sg : Seg) : u.port (.seg sg) = (PortState.stopped factorySegment).broughtUp factorySegment := by
    rw [ports]
    cases sg <;> rfl
  have sends : u.followUp = u.withPort .trunk (u.sendingPort .trunk .alert) := by
    refine State.followUp_alert (by rw [trunk]; rfl) (by rw [trunk]; rfl) (by rw [hu, alerted]; rfl)
      (fun sg => by rw [segment]; rfl) fun p => ?_
    rw [ports]
  have now : u.now = 0 := by rw [hu, alerted]; rfl
  have sending : u.sendingPort .trunk .alert =
      { (PortState.stopped factoryTrunk).broughtUp factoryTrunk with tx := ⟨.sending .alert 0, none⟩ } := by
    rw [State.sendingPort, trunk, now]
    rfl
  refine ⟨State.released, _, State.released_eq, completes, ?_⟩
  rw [sends, State.withPort_port_self, sending]
  refine ⟨rfl, rfl, rfl, rfl, fun sg => ?_, ?_, ?_, ?_, ?_, ?_, ?_, ?_⟩
  · rw [State.withPort_port_ne _ _ _ (by simp), segment, State.withPort_seg, segs]
    exact ⟨rfl, rfl, rfl, rfl, by cases sg <;> rfl⟩
  · rw [State.withPort_rules, hu, alerted]
    exact List.map_replicate
  · rw [State.withPort_agent, hu, alerted]
    rfl
  · rw [State.withPort_store, hu]
  · rw [State.withPort_alert, hu, alerted]
  · rw [State.withPort_alert, hu, alerted]
  · rw [State.withPort_alert, hu, alerted]
    exact congrArg some causes
  · rw [State.withPort_resetCause, hu, alerted]
    rfl

end Sys2Proof.Machine
end

section
/-! SUPPORT. The decoders of chapter 9 read back what the encoders write: value codes and numbers (9.1), settings blocks (9.5.1), rule
entries (9.5.2) and agent settings (9.5.7), each in its range (R3, R51, R143). -/

namespace Sys2Proof.Machine

/-! ### Value codes and numbers (9.1) -/

theorem yesNo?_yesNo (b : Bool) : yesNo? (yesNo b) = some b := by cases b <;> rfl

theorem role?_code (r : Role) : role? r.code = some r := by cases r <;> rfl

theorem parity?_code (p : Parity) : parity? p.code = some p := by cases p <;> rfl

theorem stop?_stopCode (two : Bool) : stop? (stopCode two) = some two := by cases two <;> rfl

theorem checkMode?_code (m : CheckMode) : checkMode? m.code = some m := by cases m <;> rfl

theorem priority?_code (p : Priority) : priority? p.code = some p := by cases p <;> rfl

theorem seg?_num (sg : Seg) : seg? (byteOf sg.num) = some sg := by cases sg <;> rfl

theorem portSet?_code (x : PortSet) : portSet? (PortSet.code x) = some x := by
  have each : ∀ a b c d e : Bool, portSet? (PortSet.code ⟨a, b, c, d, e⟩) = some ⟨a, b, c, d, e⟩ := by decide
  exact each _ _ _ _ _

theorem causeSet?_code (x : CauseSet) : causeSet? x.code = some x := by
  have each : ∀ a b c d e : Bool, causeSet? (CauseSet.code ⟨a, b, c, d, e⟩) = some ⟨a, b, c, d, e⟩ := by decide
  exact each _ _ _ _ _

theorem toNat_byteOf {n : Nat} (h : n < 256) : (byteOf n).toNat = n := by
  rw [byteOf, BitVec.toNat_ofNat, Nat.mod_eq_of_lt h]

/-- A 16-bit number is read back from its two bytes. -/
theorem word16_be16 {n : Nat} (h : n < 65536) : word16 (byteOf (n / 256)) (byteOf n) = n := by
  simp only [word16, byteOf, BitVec.toNat_ofNat]
  omega

/-- A value that passes its check is kept by the check. -/
theorem filter_some {α : Type} {f : α → Bool} {a : α} (h : f a = true) : (some a).filter f = some a := by
  rw [Option.filter_some, if_pos h]

/-! ### Settings blocks (9.5.1) -/

theorem SegTiming.inRange_iff (t : SegTiming) :
    t.inRange = true ↔ t.guard ≤ 2000 ∧ 5 ≤ t.response ∧ t.response ≤ 10000 ∧ t.lapse ≤ 1000 ∧ t.settle ≤ 1000 := by
  simp [SegTiming.inRange, and_assoc]

/-- The range of a settings block (R3): the timing fields are absent on the trunk and in their ranges on a segment. -/
theorem Settings.inRange_cases {p : Port} {st : Settings} (h : st.inRange p = true) :
    st.rate ≤ 8 ∧ st.gapHalf ≤ 80 ∧
      (p = .trunk ∧ st.timing = none ∨ ∃ sg t, p = .seg sg ∧ st.timing = some t ∧ t.inRange = true) := by
  obtain ⟨role, rate, parity, two, mode, gap, timing, mgmt⟩ := st
  cases p <;> cases timing <;> simp_all [Settings.inRange]

/-- A settings block in range is read back as it was written (R3, R189). -/
theorem settings?_encode {p : Port} {st : Settings} (h : st.inRange p = true) : settings? p st.encode = some st := by
  obtain ⟨rate, gap, timing⟩ := Settings.inRange_cases h
  have rateRead : (byteOf st.rate).toNat = st.rate := toNat_byteOf (by omega)
  have gapRead : (byteOf st.gapHalf).toNat = st.gapHalf := toNat_byteOf (by omega)
  rw [← filter_some h, Settings.encode]
  rcases timing with ⟨rfl, untimed⟩ | ⟨sg, t, rfl, timed, range⟩
  · rw [untimed]
    simp only [settings?, timingBytes, absent, List.replicate, List.cons_append, List.nil_append, role?_code,
      parity?_code, stop?_stopCode, checkMode?_code, yesNo?_yesNo, rateRead, gapRead]
    rw [← untimed]
  · obtain ⟨guard, _, response, lapse, settle⟩ := (SegTiming.inRange_iff t).mp range
    have timing : t = ⟨word16 (byteOf (t.guard / 256)) (byteOf t.guard), word16 (byteOf (t.response / 256)) (byteOf t.response),
        word16 (byteOf (t.lapse / 256)) (byteOf t.lapse), word16 (byteOf (t.settle / 256)) (byteOf t.settle)⟩ := by
      rw [word16_be16 (by omega), word16_be16 (by omega), word16_be16 (by omega), word16_be16 (by omega)]
    rw [timed]
    simp only [settings?, timingBytes, be16, List.cons_append, List.nil_append, role?_code,
      parity?_code, stop?_stopCode, checkMode?_code, yesNo?_yesNo, rateRead, gapRead]
    rw [← timing, ← timed]

/-- A full record in range is read back as it was written (R172). -/
theorem portRecord?_encode {p : Port} {r : PortRecord} (h : r.inRange p = true) : portRecord? p r.encode = some r := by
  have settings := settings?_encode (PortRecord.inRange_iff.mp h).1
  rw [PortRecord.encode, portRecord?, yesNo?_yesNo, settings]
  exact filter_some h

/-! ### Rule entries (9.5.2) -/

/-- The range of a rule entry (R51), as far as its numbers go. -/
theorem Rule.inRange_numbers {r : Rule} (h : r.inRange = true) :
    r.minLength ≤ 256 ∧ r.maxLength ≤ 256 ∧ r.tests.length ≤ 4 ∧ (∀ t ∈ r.tests, t.offset ≤ 255) ∧
      ∀ sg pr retries notice, r.action = .exchange sg pr retries notice → retries ≤ 3 := by
  simp only [Rule.inRange, Bool.and_eq_true, decide_eq_true_eq, List.all_eq_true] at h
  obtain ⟨⟨⟨⟨⟨⟨_, _⟩, order⟩, long⟩, tests⟩, offsets⟩, action⟩ := h
  refine ⟨order.trans long, long, tests, offsets, fun sg pr retries notice exchange => ?_⟩
  rw [exchange] at action
  exact of_decide_eq_true action

/-- An action is read back from its five bytes; only an EXCHANGE's retries have a range (R51, R52). -/
theorem action?_encode {a : Action} (h : ∀ sg pr retries notice, a = .exchange sg pr retries notice → retries ≤ 3) :
    ∃ ac ta pr re no, a.encode = [ac, ta, pr, re, no] ∧ action? ac ta pr re no = some a := by
  cases a with
  | drop => exact ⟨_, _, _, _, _, rfl, rfl⟩
  | forward targets priority =>
    refine ⟨_, _, _, _, _, rfl, ?_⟩
    simp [action?, portSet?_code, priority?_code]
  | exchange target priority retries notice =>
    have few : retries ≤ 3 := h _ _ _ _ rfl
    refine ⟨_, _, _, _, _, rfl, ?_⟩
    simp [action?, seg?_num, priority?_code, yesNo?_yesNo, toNat_byteOf (show retries < 256 by omega)]

/-- The byte tests are read back, each from its three bytes. -/
theorem tests?_bytes {ts : List ByteTest} (h : ∀ t ∈ ts, t.offset ≤ 255) : tests? ts.length (ts.flatMap ByteTest.bytes) = some ts := by
  induction ts with
  | nil => rfl
  | cons t ts ih =>
    obtain ⟨offset, rest⟩ := List.forall_mem_cons.mp h
    have bytes : (t :: ts).flatMap ByteTest.bytes = byteOf t.offset :: t.value :: t.mask :: ts.flatMap ByteTest.bytes := rfl
    rw [bytes, List.length_cons, tests?, ih rest, Option.map_some, toNat_byteOf (by omega)]

/-- A rule entry in range is read back as it was written (R51, R135). -/
theorem rule?_encode {r : Rule} (h : r.inRange = true) : rule? r.encode = some r := by
  obtain ⟨min, max, count, offsets, retries⟩ := Rule.inRange_numbers h
  obtain ⟨ac, ta, pr, re, no, bytes, action⟩ := action?_encode retries
  have minRead := word16_be16 (n := r.minLength) (by omega)
  have maxRead := word16_be16 (n := r.maxLength) (by omega)
  have countRead : (byteOf r.tests.length).toNat = r.tests.length := toNat_byteOf (by omega)
  rw [← filter_some h, Rule.encode_eq, Rule.head, bytes]
  simp only [rule?, be16, List.cons_append, List.nil_append, portSet?_code, action, countRead, tests?_bytes offsets, minRead,
    maxRead]

/-! ### Agent settings (9.5.7) -/

/-- Agent settings in range are read back as they were written (R143). -/
theorem agentSettings?_encode {a : AgentSettings} (h : a.inRange = true) : agentSettings? a.encode = some a := by
  obtain ⟨_, _, interval⟩ := (AgentSettings.inRange_iff a).mp h
  have intervalRead := word16_be16 (n := a.interval) (by omega)
  rw [← filter_some h, AgentSettings.encode]
  simp only [agentSettings?, be16, List.cons_append, List.nil_append, causeSet?_code, intervalRead]

end Sys2Proof.Machine
end

section
/-! SUPPORT. The bank image of 9.6: its layout, and that a profile in range is read back from it (R172). -/

namespace Sys2Proof.Machine

/-! ### Rule slots -/

/-- The room that a rule entry in range leaves in its slot (R51). -/
theorem Rule.length_encode_le {r : Rule} (h : r.inRange = true) : r.encode.length ≤ 23 := by
  obtain ⟨_, _, tests, _, _⟩ := Rule.inRange_numbers h
  rw [Rule.length_encode]
  omega

theorem length_ruleSlotBytes {e : Option Rule} (h : ∀ r ∈ e, r.inRange = true) : (ruleSlotBytes e).length = 24 := by
  cases e with
  | none => rfl
  | some r =>
    have room := Rule.length_encode_le (h r rfl)
    simp only [ruleSlotBytes, List.length_cons, List.length_append, List.length_replicate]
    omega

/-- A valid entry's slot is the validity byte, the entry and zeros to the slot's end (9.6). -/
theorem ruleSlotBytes_some (r : Rule) :
    ruleSlotBytes (some r) = [1#8] ++ r.encode ++ List.replicate (12 - 3 * r.tests.length) 0#8 := by
  have room : 23 - r.encode.length = 12 - 3 * r.tests.length := by
    rw [Rule.length_encode]
    omega
  rw [← room]
  rfl

/-- The eleventh byte of an entry is its number of tests, by which its length is known (R51). -/
theorem Rule.encode_count {r : Rule} (h : r.inRange = true) (after : List Byte) :
    (r.encode ++ after).take (11 + 3 * ((r.encode ++ after).getD 10 0xFF#8).toNat) = r.encode := by
  obtain ⟨_, _, tests, _, _⟩ := Rule.inRange_numbers h
  have count : (r.encode ++ after).getD 10 0xFF#8 = byteOf r.tests.length := by
    rw [Rule.encode_eq, Rule.head]
    cases r.action <;> rfl
  rw [count, toNat_byteOf (by omega)]
  exact List.take_left' r.length_encode

/-- A slot of the rule table is read back (R172). -/
theorem ruleSlot?_bytes {e : Option Rule} (h : ∀ r ∈ e, r.inRange = true) : ruleSlot? (ruleSlotBytes e) = some e := by
  cases e with
  | none => rfl
  | some r =>
    have range := h r rfl
    rw [ruleSlotBytes, ruleSlot?, yesNo?_yesNo]
    simp only [Rule.encode_count range, rule?_encode range, Option.map_some]

/-! ### Runs of pieces -/

/-- A run of encodings of one length falls into these again. -/
theorem pieces_flatMap {α : Type} {f : α → List Byte} {n : Nat} {l : List α} (length : ∀ a ∈ l, (f a).length = n) :
    pieces n l.length (l.flatMap f) = l.map f := by
  induction l with
  | nil => rfl
  | cons a l ih =>
    obtain ⟨first, rest⟩ := List.forall_mem_cons.mp length
    rw [List.flatMap_cons, List.length_cons, pieces, List.take_left' first, List.drop_left' first, ih rest, List.map_cons]

/-- Where every item's encoding is read back, all of them are. -/
theorem readAll_map {α β : Type} {f : α → β} {g : β → Option α} {l : List α} (reads : ∀ a ∈ l, g (f a) = some a) :
    readAll g (l.map f) = some l := by
  induction l with
  | nil => rfl
  | cons a l ih =>
    obtain ⟨first, rest⟩ := List.forall_mem_cons.mp reads
    rw [List.map_cons, readAll, first, ih rest]

section
variable {α : Type} {f : α → List Byte} {n : Nat} {l : List α}

/-- The items of a list as members of it. -/
theorem flatMap_eq_attach : l.flatMap f = l.attach.flatMap fun a => f a.1 := by
  rw [← List.flatMap_map Subtype.val f, List.attach_map_subtype_val]

theorem length_flatMap_of_mem (length : ∀ a ∈ l, (f a).length = n) : (l.flatMap f).length = n * l.length := by
  rw [flatMap_eq_attach, length_flatMap_const fun a : { a // a ∈ l } => length a.1 a.2, List.length_attach]

/-- In a run of pieces of one length, piece `i` stands at `i` times that length. -/
theorem fieldAt_flatMap_of_mem (length : ∀ a ∈ l, (f a).length = n) {i : Nat} {a : α} (h : l[i]? = some a) :
    fieldAt (l.flatMap f) (n * i) (f a) := by
  obtain ⟨inside, rfl⟩ := List.getElem?_eq_some_iff.mp h
  have here : l.attach[i]? = some ⟨l[i], List.getElem_mem inside⟩ :=
    List.getElem?_eq_some_iff.mpr ⟨by rwa [List.length_attach], List.getElem_attach _⟩
  rw [flatMap_eq_attach]
  exact fieldAt_flatMap (f := fun a : { a // a ∈ l } => f a.1) (fun a => length a.1 a.2) here

end

/-! ### The parts of an image -/

theorem PortRecord.length_encode (r : PortRecord) : r.encode.length = 16 := by
  rw [PortRecord.encode, List.length_cons, Settings.length_encode]

theorem portRecordsBytes_eq (records : PerPort PortRecord) :
    portRecordsBytes records = Port.list.flatMap fun p => (records.get p).encode := by
  simp [portRecordsBytes, Port.list, PerPort.get, PerSeg.get]

theorem length_portRecordsBytes (records : PerPort PortRecord) : (portRecordsBytes records).length = 80 := by
  rw [portRecordsBytes_eq, length_flatMap_const fun p => (records.get p).length_encode]
  rfl

theorem Port.list_num (p : Port) : Port.list[p.num]? = some p := by
  cases p with
  | trunk => rfl
  | seg sg => cases sg <;> rfl

theorem portRecordsBytes_field (records : PerPort PortRecord) (p : Port) :
    fieldAt (portRecordsBytes records) (16 * p.num) (records.get p).encode := by
  rw [portRecordsBytes_eq]
  exact fieldAt_flatMap (f := fun p => (records.get p).encode) (fun p => (records.get p).length_encode) (Port.list_num p)

/-- The five port records are read back (R172). -/
theorem portRecords?_bytes {records : PerPort PortRecord} (h : ∀ p, (records.get p).inRange p = true) :
    portRecords? (portRecordsBytes records) = some records := by
  have read (p : Port) : portRecord? p (((portRecordsBytes records).drop (16 * p.num)).take 16) = some (records.get p) := by
    have field := portRecordsBytes_field records p
    rw [fieldAt, PortRecord.length_encode] at field
    rw [field]
    exact portRecord?_encode (h p)
  have trunk := read .trunk
  have seg1 := read (.seg .seg1)
  have seg2 := read (.seg .seg2)
  have seg3 := read (.seg .seg3)
  have seg4 := read (.seg .seg4)
  simp only [Port.num, Seg.num, Nat.mul_zero, Nat.reduceMul, List.drop_zero] at trunk seg1 seg2 seg3 seg4
  rw [portRecords?, trunk, seg1, seg2, seg3, seg4]
  rfl

/-! ### The image -/

/-- The rule table of an image is its 128 slots (9.6). -/
theorem Profile.length_rules {x : Profile} (h : rulesInRange x.rules) : (x.rules.flatMap ruleSlotBytes).length = 3072 := by
  obtain ⟨count, each⟩ := h
  rw [length_flatMap_of_mem fun e he => length_ruleSlotBytes (each e he), count]
  rfl

theorem Profile.length_encode {x : Profile} (h : x.inRange = true) : x.encode.length = 3156 := by
  obtain ⟨_, _, rules⟩ := Profile.inRange_iff.mp h
  rw [Profile.encode, List.length_append, List.length_append, length_portRecordsBytes, Profile.length_rules rules]
  rfl

/-- A profile in range is read back from its image (R172). -/
theorem profile?_encode {x : Profile} (h : x.inRange = true) : profile? x.encode = some x := by
  obtain ⟨agent, ports, count, each⟩ := Profile.inRange_iff.mp h
  have head : x.encode.take 4 = x.agent.encode := by
    rw [Profile.encode, List.append_assoc]
    exact List.take_left' rfl
  have middle : (x.encode.drop 4).take 80 = portRecordsBytes x.ports := by
    rw [Profile.encode, List.append_assoc, List.drop_left' (i := 4) rfl, List.take_left' (length_portRecordsBytes _)]
  have tail : x.encode.drop 84 = x.rules.flatMap ruleSlotBytes := by
    rw [Profile.encode]
    refine List.drop_left' ?_
    rw [List.length_append, length_portRecordsBytes]
    rfl
  have slots : readAll ruleSlot? (pieces 24 Config.ruleEntries (x.rules.flatMap ruleSlotBytes)) = some x.rules := by
    rw [← count, pieces_flatMap fun e he => length_ruleSlotBytes (each e he)]
    exact readAll_map fun e he => ruleSlot?_bytes (each e he)
  rw [profile?, head, middle, tail, agentSettings?_encode agent, portRecords?_bytes ports, slots]

/-- The layout of 9.6: agent settings at offset 0, port `n`'s record at 4 + 16 n, slot `i` at 84 + 24 i. -/
theorem Profile.encode_layout {x : Profile} (h : x.inRange = true) :
    fieldAt x.encode 0 x.agent.encode ∧ (∀ p, fieldAt x.encode (4 + 16 * p.num) (x.ports.get p).encode) ∧
      ∀ i e, x.rules[i]? = some e → fieldAt x.encode (84 + 24 * i) (ruleSlotBytes e) := by
  obtain ⟨_, _, _, each⟩ := Profile.inRange_iff.mp h
  have split : x.encode = x.agent.encode ++ (portRecordsBytes x.ports ++ x.rules.flatMap ruleSlotBytes) := by
    rw [Profile.encode, List.append_assoc]
  refine ⟨?_, fun p => ?_, fun i e slot => ?_⟩
  · rw [split]
    exact fieldAt_append [] _ _
  · rw [split]
    exact fieldAt_within (portRecordsBytes_field x.ports p) x.agent.encode _
  · have slots := fieldAt_flatMap_of_mem (fun e he => length_ruleSlotBytes (each e he)) slot
    have within := fieldAt_within slots (x.agent.encode ++ portRecordsBytes x.ports) []
    rw [List.append_nil, List.length_append, length_portRecordsBytes] at within
    exact within

end Sys2Proof.Machine
end

section
/-! SUPPORT. A bank that a commit has programmed, as the memory keeps it (R176 to R178): what it reads as, and when it is valid (R172,
R191). -/

namespace Sys2Proof.Machine

/-! ### Numbers in runs of bytes (9.1) -/

theorem numberOf_four (a b c d : Byte) :
    numberOf [a, b, c, d] = 16777216 * a.toNat + 65536 * b.toNat + 256 * c.toNat + d.toNat := by
  simp only [numberOf, List.foldl_cons, List.foldl_nil]
  omega

/-- A 32-bit number is read back from its four bytes. -/
theorem numberOf_be32 {n : Nat} (h : n < 4294967296) : numberOf (be32 n) = n := by
  rw [be32, numberOf_four]
  simp only [byteOf, BitVec.toNat_ofNat]
  omega

/-- Four bytes are those of the number they hold. -/
theorem be32_numberOf {bytes : List Byte} (h : bytes.length = 4) : be32 (numberOf bytes) = bytes := by
  obtain ⟨a, b, c, d, rfl⟩ : ∃ a b c d, bytes = [a, b, c, d] := by
    match bytes, h with
    | [a, b, c, d], _ => exact ⟨a, b, c, d, rfl⟩
  have byte (n : Nat) (x : Byte) (low : n % 256 = x.toNat) : byteOf n = x := by
    apply BitVec.eq_of_toNat_eq
    rw [byteOf, BitVec.toNat_ofNat, low]
  have ha := a.isLt
  have hb := b.isLt
  have hc := c.isLt
  have hd := d.isLt
  rw [numberOf_four, be32, byte _ a (by omega), byte _ b (by omega), byte _ c (by omega), byte _ d (by omega)]

/-! ### The integrity check (R191) -/

/-- The bytes of a bank's body are too few for their sum to reach the erased check (R178, R191). -/
theorem integrityOf_ne_erased {bytes : List Byte} (h : bytes.length = 3160) : (integrityOf bytes).toNat ≠ numberOf (absent 4) := by
  have erased : numberOf (absent 4) = 4294967295 := by decide
  have sum : (bytes.map (·.toNat)).sum ≤ 3160 * 255 := by
    refine (List.sum_le_card_nsmul _ 255 fun x hx => ?_).trans (by rw [List.length_map, h, smul_eq_mul])
    obtain ⟨byte, _, rfl⟩ := List.mem_map.mp hx
    have small := byte.isLt
    omega
  rw [erased, integrityOf_toNat, Config.integrityBase]
  omega

/-! ### What the memory keeps (R176 to R178) -/

theorem length_asKept (base : Nat) (bytes : List Byte) (wrong : List (Nat × Byte)) :
    (asKept base bytes wrong).length = bytes.length := by
  unfold asKept
  induction wrong generalizing bytes with
  | nil => rfl
  | cons c wrong ih =>
    rw [List.foldl_cons, ih]
    split
    · exact List.length_set
    · rfl

section
variable {j : CommitJob} {wrong : List (Nat × Byte)}

/-- The check that the memory holds after a commit (R177, R178): as kept, or still erased where generation or image differ. -/
def CommitJob.checkAfter (j : CommitJob) (wrong : List (Nat × Byte)) : List Byte :=
  if asKept 4 j.bytes wrong = j.bytes then asKept 3164 (be32 (integrityOf j.bytes).toNat) wrong else absent 4

theorem CommitJob.bodyAfter_eq : j.bodyAfter wrong = Memory.ofBytes 4 (asKept 4 j.bytes wrong ++ j.checkAfter wrong) := rfl

theorem CommitJob.length_checkAfter : (j.checkAfter wrong).length = 4 := by
  unfold CommitJob.checkAfter
  split
  · exact length_asKept _ _ _
  · rfl

theorem CommitJob.length_bytes (h : j.image.inRange = true) : j.bytes.length = 3160 := by
  rw [CommitJob.bytes, List.length_append, Profile.length_encode h]
  rfl

/-- The commit's read-back in its two parts (R177). -/
theorem CommitJob.readsBack_iff :
    j.readsBack wrong = true ↔
      asKept 4 j.bytes wrong = j.bytes ∧
        asKept 3164 (be32 (integrityOf j.bytes).toNat) wrong = be32 (integrityOf j.bytes).toNat := by
  rw [CommitJob.readsBack, Bool.and_eq_true, decide_eq_true_iff, decide_eq_true_iff]

section
variable {b : Bank} (range : j.image.inRange = true) (body : b.body = j.bodyAfter wrong)
include range body

/-- A part of the bank's body: bank offset `4 + k` is byte `k` of what was programmed from offset 4 on (9.6). -/
theorem Bank.readBytes_after {k n : Nat} (inside : k + n ≤ 3164) :
    b.body.readBytes (4 + k) n = ((asKept 4 j.bytes wrong ++ j.checkAfter wrong).drop k).take n := by
  rw [body, CommitJob.bodyAfter_eq]
  refine Memory.readBytes_ofBytes 4 k n _ ?_
  rw [List.length_append, length_asKept, CommitJob.length_bytes range, CommitJob.length_checkAfter]
  exact inside

/-- Generation and image, at bank offsets 4 to 3163. -/
theorem Bank.readBytes_kept : b.body.readBytes 4 3160 = asKept 4 j.bytes wrong :=
  (Bank.readBytes_after range body (k := 0) (by omega)).trans
    (List.take_left' ((length_asKept _ _ _).trans (CommitJob.length_bytes range)))

/-- The integrity check, at bank offsets 3164 to 3167. -/
theorem Bank.readBytes_check : b.body.readBytes 3164 4 = j.checkAfter wrong := by
  refine (Bank.readBytes_after range body (k := 3160) (by omega)).trans ?_
  rw [List.drop_left' ((length_asKept _ _ _).trans (CommitJob.length_bytes range)), ← CommitJob.length_checkAfter,
    List.take_length]

section
variable (kept : j.readsBack wrong = true)
include kept

/-- A bank kept as programmed holds the captured generation (R176). -/
theorem Bank.storedGeneration_committed : b.storedGeneration = j.generation := by
  obtain ⟨bytes, _⟩ := CommitJob.readsBack_iff.mp kept
  have generation : b.body.readBytes 4 4 = be32 j.generation.toNat := by
    refine (Bank.readBytes_after range body (k := 0) (by omega)).trans ?_
    rw [bytes, CommitJob.bytes, List.append_assoc]
    exact List.take_left' rfl
  rw [Bank.storedGeneration, generation, numberOf_be32 j.generation.isLt, BitVec.ofNat_toNat, BitVec.setWidth_eq]

/-- A bank kept as programmed holds the captured profile (R176). -/
theorem Bank.storedProfile_committed : b.storedProfile? = some j.image := by
  obtain ⟨bytes, _⟩ := CommitJob.readsBack_iff.mp kept
  have image : b.imageBytes = j.image.encode := by
    refine (Bank.readBytes_after range body (k := 4) (by omega)).trans ?_
    rw [bytes, CommitJob.bytes, List.append_assoc, List.drop_left' (i := 4) rfl, List.take_left' (Profile.length_encode range)]
  rw [Bank.storedProfile?, image, profile?_encode range]

end

/-- The stored check is the computed one exactly where every cell reads back as programmed (R177, R178, R191). -/
theorem Bank.check_iff_readsBack :
    numberOf (b.body.readBytes 3164 4) = (integrityOf (b.body.readBytes 4 3160)).toNat ↔ j.readsBack wrong = true := by
  rw [Bank.readBytes_check range body, Bank.readBytes_kept range body, CommitJob.readsBack_iff, CommitJob.checkAfter]
  by_cases bytes : asKept 4 j.bytes wrong = j.bytes
  · rw [if_pos bytes, bytes]
    constructor
    · intro same
      exact ⟨rfl, (be32_numberOf (length_asKept _ _ _)).symm.trans (congrArg be32 same)⟩
    · rintro ⟨_, check⟩
      rw [check, numberOf_be32 (BitVec.isLt _)]
  · rw [if_neg bytes]
    have length := (length_asKept 4 j.bytes wrong).trans (CommitJob.length_bytes range)
    exact iff_of_false (integrityOf_ne_erased length).symm fun both => bytes both.1

/-- A programmed bank is valid exactly where every cell reads back as programmed (R172, R177, R178). -/
theorem Bank.contentsValid_committed : b.contentsValid = true ↔ j.readsBack wrong = true := by
  rw [Bank.contentsValid_iff, Bank.check_iff_readsBack range body]
  exact and_iff_left_of_imp fun kept => ⟨_, Bank.storedProfile_committed range body kept⟩

end

/-- A memory that keeps what is written reads back as programmed (R177). -/
theorem CommitJob.readsBack_nil (j : CommitJob) : j.readsBack [] = true := CommitJob.readsBack_iff.mpr ⟨rfl, rfl⟩

end

/-- Settles O53: the layout field by field, then the bank by whether it reads back as programmed. -/
theorem committedBankReadsBack : Obligations.CommittedBankReadsBack := by
  refine ⟨fun x range => ?_, fun j wrong b range _ body => ⟨fun kept => ?_, fun differs => ?_, j.readsBack_nil⟩⟩
  · obtain ⟨agent, ports, slots⟩ := Profile.encode_layout range
    refine ⟨Profile.length_encode range, agent, ports, fun i => ⟨slots i none, fun r valid => ?_⟩⟩
    rw [← ruleSlotBytes_some]
    exact slots i (some r) valid
  · exact ⟨(Bank.contentsValid_committed range body).mpr kept, Bank.storedProfile_committed range body kept,
      Bank.storedGeneration_committed range body kept⟩
  · have invalid := mt (Bank.contentsValid_committed range body).mp (by simp [differs])
    exact (Bool.not_eq_true _).mp invalid

end Sys2Proof.Machine
end

section
/-! SUPPORT. The part while CLKIN stops: each guard that a command or a tick passes through is shut, and nothing is due (R194,
log 17). -/

namespace Sys2Proof.Machine

section
variable {s : State} (stopped : s.clockRunning = false)
include stopped

/-! ### The guards -/

theorem State.whenClocked_stopped (f : State → State) : s.whenClocked f = s := by
  simp [State.whenClocked, stopped]

theorem State.takeCommand_stopped (i : Instr) (perform : Request → State → State) : s.takeCommand i perform = s := by
  simp [State.takeCommand, stopped]

theorem State.tick_stopped : s.tick = s := by
  simp [State.tick, stopped]

theorem State.nextEvent_stopped : s.nextEvent = none := by
  simp [State.nextEvent, State.dueEvents, stopped]

/-! ### Commands and steps -/

/-- Every event of the part passes through one of two guards: the clock's own, or the agent's taking of a command. -/
theorem exec_stopped {c : Instr} (own : isOutside c = false) (wf : c.wellFormed = true) : exec c s = .next s := by
  cases c
  case powerReset | supplyReset | supplyRelease | pinReset | pinResetEnd | vddFallsBelow1V2 | clkinStops | clkinReturns =>
    nomatch own
  case commitCompletion wrong => exact (if_pos wf).trans (congrArg Host.Outcome.next (State.whenClocked_stopped stopped _))
  case characterArrival | characterReceived | heldCharacterReleased | breakDeclared | gapTimerExpiry
      | lineReturnsHighAfterBreak | turnaroundGuardExpiry | sendEnd | responseTimerExpiry | lapseTimerExpiry
      | settleTimerExpiry | repeatTimerExpiry | loadCompletion | startupLoadCompletion =>
    exact congrArg Host.Outcome.next (State.whenClocked_stopped stopped _)
  all_goals exact congrArg Host.Outcome.next (State.takeCommand_stopped stopped _ _)

/-- With nothing waiting, no event is due and no time passes. -/
theorem step_stopped (empty : s.pending = []) : step s = .next s :=
  (step_of_noEvent empty (State.nextEvent_stopped stopped)).trans (congrArg Host.Outcome.next (State.tick_stopped stopped))

end

/-- Settles O5: the two clock commands are their one update, and a stopped clock shuts every guard. -/
theorem stoppedClockStopsThePart : Obligations.StoppedClockStopsThePart := by
  intro s
  exact ⟨rfl, rfl, fun stopped => ⟨fun _ => exec_stopped stopped, step_stopped stopped⟩⟩

end Sys2Proof.Machine
end

section
/-! SUPPORT. What running a command answers: a next state for every well-formed command and a fault for any other, with the waiting
commands left as they are; and the step with a command waiting. -/

namespace Sys2Proof.Machine

/-! ### The step with a command waiting -/

theorem step_of_front {c : Instr} {rest : List Instr} {s : State} (waiting : s.pending = c :: rest) :
    step s = exec c (s.withPending rest) := by
  simp only [step, waiting]

/-- Settles O1: the step on a queue that is not empty. -/
theorem stepRunsFrontCommand : Obligations.StepRunsFrontCommand := fun _ _ _ waiting => step_of_front waiting

/-! ### Whether a command completes -/

/-- COMMIT_COMPLETION alone looks at its operand before anything else; every other command answers a next state at once. -/
theorem exec_wellFormed {c : Instr} (wf : c.wellFormed = true) (s : State) : ∃ t, exec c s = .next t := by
  cases c
  case commitCompletion wrong => exact ⟨_, if_pos wf⟩
  all_goals exact ⟨_, rfl⟩

/-- The one check of well-formedness is that of COMMIT_COMPLETION's cells (9.6, log 10). -/
theorem exec_illFormed {c : Instr} (ill : c.wellFormed = false) (s : State) : exec c s = .fault .noSuchCell := by
  cases c
  case commitCompletion wrong => exact if_neg (ill ▸ Bool.false_ne_true)
  all_goals nomatch ill

/-! ### The waiting commands -/

section
variable {s t : State}

theorem State.leaveReset_pending (s : State) : s.leaveReset.pending = s.pending := by
  unfold State.leaveReset
  split <;> rfl

/-- The commands from outside are wipes, releases and updates of single fields, none of which looks at the queue. -/
theorem exec_pending_outside {c : Instr} (outside : isOutside c = true) (h : exec c s = .next t) : t.pending = s.pending := by
  cases c <;> simp only [isOutside, Bool.false_eq_true] at outside
  all_goals injection h with h; subst h
  case powerReset | vddFallsBelow1V2 | clkinStops | clkinReturns => rfl
  case supplyReset =>
    unfold State.supplyFalls
    split <;> rfl
  case pinReset =>
    unfold State.pinFalls
    split <;> rfl
  case supplyRelease =>
    unfold State.supplyReleases
    split
    · exact State.leaveReset_pending { s with supply := .ok }
    · exact State.leaveReset_pending { s with supply := .ok }
    · rfl
    · rfl
  case pinResetEnd =>
    unfold State.pinRises
    split
    · exact State.leaveReset_pending { s with pinHeld := false }
    · rfl

theorem exec_pending {c : Instr} (h : exec c s = .next t) : t.pending = s.pending := by
  cases outside : isOutside c with
  | true => exact exec_pending_outside outside h
  | false => exact (exec_evolves outside h).pending

end

/-- Settles O4: whether the command completes is its well-formedness, and no command touches the queue. -/
theorem wellFormedCommandsComplete : Obligations.WellFormedCommandsComplete := by
  refine fun c s => ⟨fun wf => ?_, fun ill => exec_illFormed ill s⟩
  obtain ⟨t, next⟩ := exec_wellFormed wf s
  exact ⟨t, next, exec_pending next⟩

end Sys2Proof.Machine
end

section
/-! SUPPORT. The bodies of SET PORT and WRITE RULE read back: a port number or a rule index before the block it names (R131, R135). -/

namespace Sys2Proof.Machine

theorem port?_num (p : Port) : port? (byteOf p.num) = some p := by
  cases p with
  | trunk => rfl
  | seg sg => exact seg?_eq_some.mp (seg?_num sg)

theorem portSettings?_encode {p : Port} {st : Settings} (h : st.inRange p = true) :
    portSettings? (byteOf p.num :: st.encode) = some (p, st) := by
  rw [portSettings?, port?_num, Option.bind_some, settings?_encode h, Option.map_some]

theorem indexedRule?_encode {r : Rule} (h : r.inRange = true) {i : Nat} (index : i < 128) :
    indexedRule? (byteOf i :: r.encode) = some (i, r) := by
  have number : (byteOf i).toNat = i := toNat_byteOf (by omega)
  rw [indexedRule?_eq_some (number.symm ▸ index) (rule?_encode h), number]

/-- Settles O52: each record's decoder reads its encoding back; a full record and agent settings are laid out as they are encoded. -/
theorem settingsAndRulesReadBackAsWritten : Obligations.SettingsAndRulesReadBackAsWritten :=
  ⟨fun _ _ h => ⟨settings?_encode h, portSettings?_encode h⟩,
    fun _ _ h => ⟨portRecord?_encode h, rfl⟩,
    fun _ h => ⟨rule?_encode h, fun _ index => indexedRule?_encode h index⟩,
    fun _ h => ⟨agentSettings?_encode h, rfl⟩⟩

end Sys2Proof.Machine
end
